-- ==== Sys2Proof/Word.lean ====
section
/-! DEFINITION. The two bit-vector types of the machine: a byte and a 16-bit word (`00_scope.md` R5). -/

namespace Sys2Proof

/-- An 8-bit datum: a register, a memory byte, an operand byte (R5). -/
abbrev Byte := BitVec 8

/-- A 16-bit address or program counter value (R5). -/
abbrev Word := BitVec 16

end Sys2Proof
end

