-- ==== Sys2Proof/Machine/Bytes.lean ====
section
/-! DEFINITION. Byte-order and extension helpers of `00_scope.md` R7: the concatenation of two bytes,
the two halves of a word, and the zero and sign extension of a byte to 16 bits. -/

namespace Sys2Proof.Machine

/-- `{h, l}` of R7: the word whose high byte is `h` and whose low byte is `l`. -/
def mkWord (h l : Byte) : Word := h ++ l

/-- `hi(w)` of R7: bits 15:8. -/
def hi (w : Word) : Byte := w.extractLsb' 8 8

/-- `lo(w)` of R7: bits 7:0. -/
def lo (w : Word) : Byte := w.extractLsb' 0 8

/-- `zext_16(b)` of R7: the byte as a word whose high byte is 0. -/
def zext16 (b : Byte) : Word := b.zeroExtend 16

/-- `sext_16(b)` of R7: the two's complement extension of a signed byte. -/
def sext16 (b : Byte) : Word := b.signExtend 16

end Sys2Proof.Machine
end

