-- ==== Sys2Proof/Config.lean ====
section
/-! DEFINITION. What a build of CORE fixes (`00_scope.md` R6), and the free values that stand for the
spec's `draw` (R9). A `Config` is data: the machine's state carries the one it was built with, and no
step changes it (log 7). -/

namespace Sys2Proof

/-- The address modes that a member of `UNDOC_NOP_SET` can have: those with an access kind `read`, and
`IMP` with kind `implied` (`30_encoding.md` R100). -/
inductive NopMode
  | imp | im | zp | zpx | zpy | abs | absx | absy | indx | indy
deriving DecidableEq, Repr

/-- The parameters of R6 that the spec leaves open to the build. `STRICT_STACK` is fixed false by the
spec and has no field (log 15). -/
structure Config where
  /-- `BCD_ENABLED`: whether the `D` flag makes `ADC` and `SBC` decimal (R6, decision D1). -/
  bcdEnabled : Bool
  /-- `UNDOC_NOP_SET`: undocumented opcode bytes the build accepts as no-operations (R100, D3). -/
  undocNops : List (Byte × NopMode)
  /-- `EXT_INTERRUPTS`: whether the platform wires IRQ and NMI request inputs (R262, D12). -/
  extInterrupts : Bool
deriving DecidableEq, Repr

/-- The values R6 decides: `BCD_ENABLED = true`, `UNDOC_NOP_SET` empty, `EXT_INTERRUPTS = false`. -/
def Config.decided : Config :=
  { bcdEnabled := true, undocNops := [], extInterrupts := false }

/-- `MEM_FILL` of R6: what a memory byte nothing has written reads as (`20_memory.md` R51). -/
def Config.memFill : Byte := 0x55#8

/-- The `n`-th one-bit `draw` (R9): a free value, of which nothing is known (log 4). -/
opaque Config.freeBit : Nat → Bool

/-- The `n`-th one-byte `draw` (R9): a free value, of which nothing is known (log 4). -/
opaque Config.freeByte : Nat → Byte

end Sys2Proof
end

