-- ==== Sys2Proof/Machine/State.lean ====
section
/-! DEFINITION. Everything the spec gives the machine to hold (`10_state.md` section 1), the reasons a
step can stop, and the machine right after `Reset()` (`10_state.md` R41, `70_reset_and_hazards.md`
R290). -/

namespace Sys2Proof.Machine

/-- Whether a bus access was a load or a store (`20_memory.md` R52, the `rw` line). -/
inductive BusKind
  | read
  | write
deriving DecidableEq, Repr

/-- One cycle of the bus interface of `20_memory.md` R52: kind, 16-bit address, 8-bit data. -/
structure BusAccess where
  kind : BusKind
  addr : Word
  data : Byte
deriving DecidableEq, Repr

/-- The halt reasons of `60_exceptions.md` R250, with exactly these payloads. -/
inductive HaltReason
  /-- A step executed `BRK`; `pc` is the address of its opcode (R254). -/
  | brk (pc : Word)
  /-- A step met an opcode byte outside the table (R255). -/
  | illegalOpcode (pc : Word) (byte : Byte)
  /-- The host gave up between steps (R253); never in the latch. -/
  | timeout (cycles : Nat)
deriving DecidableEq, Repr

/-- The flat RAM of `20_memory.md` R51, R52 as address and byte pairs: addresses strictly rising, no
byte equal to the fill that an unlisted address reads as. -/
abbrev Memory := List Host.Cell

@[ext]
structure State where
  /-- Accumulator, `10_state.md` R20. -/
  a : Byte
  /-- Index register X, R21. -/
  x : Byte
  /-- Index register Y, R22. -/
  y : Byte
  /-- Stack pointer, an offset into page 1, R24. -/
  sp : Byte
  /-- Program counter, R27. -/
  pc : Word
  /-- Flag N, bit 7 of P, R30. -/
  n : Bool
  /-- Flag V, bit 6 of P, R30. -/
  v : Bool
  /-- Flag D, bit 3 of P, R30. -/
  d : Bool
  /-- Flag I, bit 2 of P, R30. -/
  i : Bool
  /-- Flag Z, bit 1 of P, R30. -/
  z : Bool
  /-- Flag C, bit 0 of P, R30. -/
  c : Bool
  /-- The 64 KiB memory, `20_memory.md` R50, R51. -/
  mem : Memory
  /-- The clock, R36: bus accesses made; unbounded here (log 3). -/
  cycles : Nat
  /-- The halt latch, R37. -/
  halt : Option HaltReason
  /-- Level of the IRQ input, R38; read only when `config.extInterrupts`. -/
  irqLine : Bool
  /-- NMI request latch, R38; read only when `config.extInterrupts`. -/
  nmiLatch : Bool
  /-- What the bus interface carried in the latest step, oldest first (`20_memory.md` R52, R65; log 6). -/
  bus : List BusAccess
  /-- The model's own: how many free values have been drawn (log 4). -/
  draws : Nat
  /-- The build's parameters (`00_scope.md` R6); no step changes them (log 7). -/
  config : Config
deriving DecidableEq, Repr

/-- Why the machine stops with a fault. -/
inductive Fault
  /-- Raised by `step` on a state whose latch holds `IllegalOpcode`: the spec has a model treat that
  state as a fault, which only `Reset()` leaves (`60_exceptions.md` R251, R255). Safe. -/
  | illegalOpcode (pc : Word) (byte : Byte)
deriving DecidableEq, Repr

/-- Why a step is refused. No meaning of an instruction refuses. -/
inductive Refusal
  /-- Reserved for arms of `exec` without a meaning; no arm uses it. Safe. -/
  | notModelled (mnemonic : String)
  /-- Raised by `step` on a state whose latch holds `Brk`: the precondition of `Step()` fails and a
  halted core has no move until the host clears the latch (`60_exceptions.md` R251). Safe. -/
  | haltedAtBrk (pc : Word)
  /-- Raised by `step` on a state whose latch holds `Timeout`, which no action of core or host makes
  (R253). Safe. -/
  | haltedByHost (cycles : Nat)
deriving DecidableEq, Repr

/-- What a step or an instruction's meaning answers. -/
abbrev Result := Host.Outcome State Fault Refusal

/-- The machine after `Reset()` of a core whose memory nothing has written, in the build R6 decides.
`pc`, `sp`, `i`, `d`, `halt`, memory and the two reads are the spec's (R41, R51, R290, R291);
`a x y n v z c` (log 1), the two cycles counted from 0 (log 2), `draws` (log 5), `irqLine` (log 10) and
`nmiLatch`, which this build does not have and `Reset()` does not clear (log 20), are named by the log. -/
def State.reset : State :=
  { a := 0, x := 0, y := 0, sp := 0xFD#8, pc := 0x5555#16
    n := false, v := false, d := false, i := true, z := false, c := false
    mem := [], cycles := 2, halt := none, irqLine := false, nmiLatch := false
    bus := [⟨.read, 0xFFFC#16, 0x55#8⟩, ⟨.read, 0xFFFD#16, 0x55#8⟩]
    draws := 0, config := Config.decided }

end Sys2Proof.Machine
end

