-- ==== Sys2Proof/Machine/Memory.lean ====
section
/-! DEFINITION. The 64 KiB flat RAM of `20_memory.md` R50, R51: reading and writing one byte, in one
canonical form. -/

namespace Sys2Proof.Machine

/-- The byte at an address; a byte nothing has written reads `MEM_FILL` (R51). -/
def Memory.read : Memory → Nat → Byte
  | [], _ => Config.memFill
  | (k, b) :: rest, a => if a = k then b else Memory.read rest a

/-- Puts a listed byte at its place in rising order of addresses, replacing the one listed there. -/
def Memory.insert : Memory → Nat → Byte → Memory
  | [], a, b => [(a, b)]
  | (k, v) :: rest, a, b =>
    if a < k then (a, b) :: (k, v) :: rest
    else if a = k then (a, b) :: rest
    else (k, v) :: Memory.insert rest a b

/-- Takes every entry of an address away, so that it reads `MEM_FILL`. -/
def Memory.erase : Memory → Nat → Memory
  | [], _ => []
  | (k, v) :: rest, a => if a = k then Memory.erase rest a else (k, v) :: Memory.erase rest a

/-- `M[a] <- b` (R54). Writing the fill byte lists nothing, so equal memories are equal data. -/
def Memory.write (m : Memory) (a : Nat) (b : Byte) : Memory :=
  if b = Config.memFill then m.erase a else m.insert a b

/-- The canonical form: addresses strictly rising and below 65536 (R50), no entry equal to the fill. -/
abbrev Memory.wf (m : Memory) : Prop :=
  m.Pairwise (fun p q => p.1 < q.1) ∧ ∀ p ∈ m, p.1 < 65536 ∧ p.2 ≠ Config.memFill

end Sys2Proof.Machine
end

