-- ==== Sys2Proof/Machine/Registers.lean ====
section
/-! DEFINITION. One named update per piece of state (`00_scope.md` R8), and the byte the memory holds
at an address. -/

namespace Sys2Proof.Machine

/-- The byte the flat RAM answers at `addr` (`20_memory.md` R53), without the bus access. -/
def State.load (s : State) (addr : Word) : Byte := s.mem.read addr.toNat

/-- `A <- w` (R8, R20). -/
def State.setA (s : State) (w : Byte) : State := { s with a := w }
/-- `X <- w` (R8, R21). -/
def State.setX (s : State) (w : Byte) : State := { s with x := w }
/-- `Y <- w` (R8, R22). -/
def State.setY (s : State) (w : Byte) : State := { s with y := w }
/-- `SP <- w` (R8, R24). -/
def State.setSp (s : State) (w : Byte) : State := { s with sp := w }
/-- `PC <- w` (R8, R27). -/
def State.setPc (s : State) (w : Word) : State := { s with pc := w }
/-- `N <- b` (R30). -/
def State.setN (s : State) (b : Bool) : State := { s with n := b }
/-- `V <- b` (R30). -/
def State.setV (s : State) (b : Bool) : State := { s with v := b }
/-- `D <- b` (R30). -/
def State.setD (s : State) (b : Bool) : State := { s with d := b }
/-- `I <- b` (R30). -/
def State.setI (s : State) (b : Bool) : State := { s with i := b }
/-- `Z <- b` (R30). -/
def State.setZ (s : State) (b : Bool) : State := { s with z := b }
/-- `C <- b` (R30). -/
def State.setC (s : State) (b : Bool) : State := { s with c := b }
/-- The halt latch takes or loses a reason (`10_state.md` R37). -/
def State.setHalt (s : State) (r : Option HaltReason) : State := { s with halt := r }
/-- The NMI latch is set or cleared (`60_exceptions.md` R263). -/
def State.setNmi (s : State) (b : Bool) : State := { s with nmiLatch := b }
/-- The level of the IRQ input (`60_exceptions.md` R262). -/
def State.setIrq (s : State) (b : Bool) : State := { s with irqLine := b }
/-- A step begins: the record of the bus holds this step's accesses only (log 6). -/
def State.beginStep (s : State) : State := { s with bus := [] }

end Sys2Proof.Machine
end

