-- ==== Sys2Proof/Machine/Flags.lean ====
section
/-! DEFINITION. Every flag computation of the spec: `SetNZ`, `Pbyte`, `SetP` (`10_state.md` R31, R33,
R34), the binary and decimal adder (`41_arithmetic_compare.md`), compares, shifts and rotates
(`42_shift_rotate.md`), bit test, logic, increment and decrement (`46_logic_incdec_flags_nop.md`). An
operation takes the operand byte and the state and answers the state; a read-modify-write function
answers the byte to store as well. -/

namespace Sys2Proof.Machine

/-- `SetNZ(w)`, `10_state.md` R31. -/
def State.setNZ (s : State) (w : Byte) : State := { s with n := w.msb, z := w == 0#8 }

/-- `Pbyte(b)`, `10_state.md` R33: the byte made from `P` with `B` bit `b`; bit 5 is always 1. -/
def State.pByte (s : State) (b : Bool) : Byte :=
  BitVec.ofNat 8 (s.n.toNat * 128 + s.v.toNat * 64 + 32 + b.toNat * 16
    + s.d.toNat * 8 + s.i.toNat * 4 + s.z.toNat * 2 + s.c.toNat)

/-- `SetP(w)`, `10_state.md` R34; bits 5 and 4 are ignored. -/
def State.setP (s : State) (w : Byte) : State :=
  { s with
    n := w.getLsbD 7, v := w.getLsbD 6, d := w.getLsbD 3
    i := w.getLsbD 2, z := w.getLsbD 1, c := w.getLsbD 0 }

/-! ### Loads and transfers -/

/-- `A <- M; SetNZ(A)`, `45_load_store_transfer.md` R201. -/
def loadA (m : Byte) (s : State) : State := (s.setA m).setNZ m
/-- `X <- M; SetNZ(X)`, R202. -/
def loadX (m : Byte) (s : State) : State := (s.setX m).setNZ m
/-- `Y <- M; SetNZ(Y)`, R203. -/
def loadY (m : Byte) (s : State) : State := (s.setY m).setNZ m

/-! ### Binary and decimal addition and subtraction -/

/-- Units digit of a byte, bits 3:0 (R142). -/
def lowNibble (b : Byte) : Nat := b.toNat % 16
/-- Tens digit of a byte, bits 7:4 (R142). -/
def highNibble (b : Byte) : Nat := b.toNat / 16

/-- "A byte is valid packed BCD when both its nibbles are 0 to 9" (R142). -/
def bcdValid (b : Byte) : Bool := decide (lowNibble b ≤ 9) && decide (highNibble b ≤ 9)

/-- The binary formulas of `ADC`, `41_arithmetic_compare.md` R141. -/
def adcBinary (m : Byte) (s : State) : State :=
  let sum := s.a.toNat + m.toNat + s.c.toNat
  let result := BitVec.ofNat 8 sum
  { s with
    c := decide (sum > 0xFF)
    v := ((s.a ^^^ result) &&& (m ^^^ result) &&& 0x80#8) != 0#8
    z := result == 0#8
    n := result.msb
    a := result }

/-- `N <- draw; V <- draw; Z <- draw` of R142 and R145: three free values (log 4). -/
def drawNVZ (s : State) : State :=
  { s with
    n := Config.freeBit s.draws
    v := Config.freeBit (s.draws + 1)
    z := Config.freeBit (s.draws + 2)
    draws := s.draws + 3 }

/-- `A <- draw; C <- draw; N <- draw; V <- draw; Z <- draw` of R142 and R145 (log 4). -/
def drawAll (s : State) : State :=
  { drawNVZ s with
    c := Config.freeBit (s.draws + 3)
    a := Config.freeByte (s.draws + 4)
    draws := s.draws + 5 }

/-- The value `t` of R142 after both digit corrections. -/
def adcDecimalSum (a m : Byte) (c : Bool) : Nat :=
  let units := lowNibble a + lowNibble m + c.toNat
  let al := if units ≥ 0x0A then (units + 0x06) % 16 + 0x10 else units
  let t := highNibble a * 16 + highNibble m * 16 + al
  if t ≥ 0xA0 then t + 0x60 else t

/-- `AdcDecimal(M)`, R142. -/
def adcDecimal (m : Byte) (s : State) : State :=
  if bcdValid s.a && bcdValid m then
    let t := adcDecimalSum s.a m s.c
    { drawNVZ s with a := BitVec.ofNat 8 t, c := decide (t ≥ 0x100) }
  else drawAll s

/-- The value `t` of R145 after both digit corrections, a signed integer. -/
def sbcDecimalDiff (a m : Byte) (c : Bool) : Int :=
  let units : Int := (lowNibble a : Int) - lowNibble m + c.toNat - 1
  let al : Int := if units < 0 then (units - 0x06) % 16 - 0x10 else units
  let t : Int := (highNibble a : Int) * 16 - highNibble m * 16 + al
  if t < 0 then t - 0x60 else t

/-- `SbcDecimal(M)`, R145; `C` is the binary borrow of the old `A` and the old `C`. -/
def sbcDecimal (m : Byte) (s : State) : State :=
  if bcdValid s.a && bcdValid m then
    { drawNVZ s with
      a := BitVec.ofInt 8 (sbcDecimalDiff s.a m s.c)
      c := decide (s.a.toNat + (m ^^^ 0xFF#8).toNat + s.c.toNat > 0xFF) }
  else drawAll s

/-- `ADC`, R141: decimal when `D` is set in a build with `BCD_ENABLED`, else binary. -/
def adc (m : Byte) (s : State) : State :=
  if s.d && s.config.bcdEnabled then adcDecimal m s else adcBinary m s

/-- `SBC`, R144: the binary case is `ADC` with the operand bitwise inverted. -/
def sbc (m : Byte) (s : State) : State :=
  if s.d && s.config.bcdEnabled then sbcDecimal m s else adcBinary (m ^^^ 0xFF#8) s

/-! ### Compares and bit test -/

/-- The flags of `r - m`, R146: `N`, `Z`, `C` only; `C` set when `r >= m` unsigned. -/
def compareWith (r m : Byte) (s : State) : State :=
  { s with c := decide (m.toNat ≤ r.toNat), z := r == m, n := (r - m).msb }

/-- `CMP`, R146. -/
def cmp (m : Byte) (s : State) : State := compareWith s.a m s
/-- `CPX`, R147. -/
def cpx (m : Byte) (s : State) : State := compareWith s.x m s
/-- `CPY`, R148. -/
def cpy (m : Byte) (s : State) : State := compareWith s.y m s

/-- `BIT`, `46_logic_incdec_flags_nop.md` R224: `Z` from `A & M`, `N` and `V` from bits 7 and 6 of `M`. -/
def bitTest (m : Byte) (s : State) : State :=
  { s with z := (s.a &&& m) == 0#8, n := m.getLsbD 7, v := m.getLsbD 6 }

/-! ### Logic -/

/-- `AND`, R221. -/
def andA (m : Byte) (s : State) : State := loadA (s.a &&& m) s
/-- `ORA`, R222. -/
def oraA (m : Byte) (s : State) : State := loadA (s.a ||| m) s
/-- `EOR`, R223. -/
def eorA (m : Byte) (s : State) : State := loadA (s.a ^^^ m) s

/-! ### Read-modify-write functions: the byte to store, and the state with its flags -/

/-- `f` of `ASL`, `42_shift_rotate.md` R151. -/
def aslF (v : Byte) (s : State) : Byte × State :=
  let r := v <<< 1
  (r, (s.setC v.msb).setNZ r)

/-- `f` of `LSR`, R152. -/
def lsrF (v : Byte) (s : State) : Byte × State :=
  let r := v >>> 1
  (r, (s.setC (v.getLsbD 0)).setNZ r)

/-- `f` of `ROL`, R153: the old `C` enters bit 0. -/
def rolF (v : Byte) (s : State) : Byte × State :=
  let r := (v <<< 1) ||| BitVec.ofNat 8 s.c.toNat
  (r, (s.setC v.msb).setNZ r)

/-- `f` of `ROR`, R154: the old `C` enters bit 7. -/
def rorF (v : Byte) (s : State) : Byte × State :=
  let r := (v >>> 1) ||| BitVec.ofNat 8 (s.c.toNat * 128)
  (r, (s.setC (v.getLsbD 0)).setNZ r)

/-- `f` of `INC`, `46_logic_incdec_flags_nop.md` R225. -/
def incF (v : Byte) (s : State) : Byte × State := (v + 1#8, s.setNZ (v + 1#8))

/-- `f` of `DEC`, R226. -/
def decF (v : Byte) (s : State) : Byte × State := (v - 1#8, s.setNZ (v - 1#8))

end Sys2Proof.Machine
end

