-- ==== Sys2Proof/Machine/Ops.lean ====
section
/-! DEFINITION. The named operations every meaning is built from: one bus access (`20_memory.md` R53 to
R56), push and pull (`10_state.md` R25), entering an interrupt (`44_stack_subroutine_interrupt.md`
R187, `60_exceptions.md` R259, R266) and returning from one (R188). -/

namespace Sys2Proof.Machine

/-- One cycle of the bus: the clock advances by one (`20_memory.md` R86) and the access is recorded. -/
def State.access (s : State) (acc : BusAccess) : State :=
  { s with cycles := s.cycles + 1, bus := s.bus ++ [acc] }

/-- The effect of `MemRead(addr, 1)` on the state (R53), which is all of `DummyRead(addr)` (R55); the
byte it returns is `s.load addr`. -/
def State.busRead (s : State) (addr : Word) : State := s.access ⟨.read, addr, s.load addr⟩

/-- `MemWrite(addr, 1, w)` (R54). -/
def State.busWrite (s : State) (addr : Word) (w : Byte) : State :=
  { s.access ⟨.write, addr, w⟩ with mem := s.mem.write addr.toNat w }

/-- `0x0100 + SP`: the stack address of an offset into page 1 (`10_state.md` R24). -/
def stackAddr (offset : Byte) : Word := mkWord 0x01#8 offset

/-- `Push(w)` (`10_state.md` R25): write, then decrement `SP` modulo 256. -/
def State.push (s : State) (w : Byte) : State :=
  (s.busWrite (stackAddr s.sp) w).setSp (s.sp - 1#8)

/-- The byte `Pull()` returns (`10_state.md` R25): the one above `SP`. -/
def State.pulled (s : State) : Byte := s.load (stackAddr (s.sp + 1#8))

/-- The effect of `Pull()` on the state (`10_state.md` R25): increment `SP` modulo 256, then read. -/
def State.pull (s : State) : State :=
  (s.setSp (s.sp + 1#8)).busRead (stackAddr (s.sp + 1#8))

/-- The tail that `BRK`, IRQ and NMI share (`44_stack_subroutine_interrupt.md` R187, `60_exceptions.md`
R266): push the return address high byte first, push `Pbyte(b)`, set `I`, load `PC` from the vector low
byte first. `D` is not changed. -/
def State.enterInterrupt (s : State) (ret : Word) (b : Bool) (vec : Word) : State :=
  let pushed := (((s.push (hi ret)).push (lo ret)).push (s.pByte b)).setI true
  ((pushed.busRead vec).busRead (vec + 1#16)).setPc
    (mkWord (pushed.load (vec + 1#16)) (pushed.load vec))

/-- The vector of `BRK` and IRQ (`20_memory.md` R63). -/
def irqVector : Word := 0xFFFE#16
/-- The NMI vector (`20_memory.md` R63). -/
def nmiVector : Word := 0xFFFA#16
/-- The reset vector (`20_memory.md` R63). -/
def resetVector : Word := 0xFFFC#16

/-- `InterruptEntry(vec)` of `60_exceptions.md` R266: two dummy reads at `PC`, then the shared tail with
`B = 0` and the interrupted `PC` itself as the return address. -/
def State.interruptEntry (s : State) (vec : Word) : State :=
  ((s.busRead s.pc).busRead s.pc).enterInterrupt s.pc false vec

/-- The pulls of `RTI` (`44_stack_subroutine_interrupt.md` R188): `P` with bits 5 and 4 ignored, then
the low and the high byte of `PC`, to which nothing is added. -/
def State.returnFromInterrupt (s : State) : State :=
  let withP := s.pull.setP s.pulled
  let withLo := withP.pull
  withLo.pull.setPc (mkWord withLo.pulled withP.pulled)

/-- `n` times `Fetch()` (`20_memory.md` R56): read at `PC`, then advance `PC` modulo 65536. -/
def State.fetch (s : State) : Nat → State
  | 0 => s
  | n + 1 => State.fetch ((s.busRead s.pc).setPc (s.pc + 1#16)) n

end Sys2Proof.Machine
end

