-- ==== Sys2Proof/Syntax.lean ====
section
/-! DEFINITION. The instruction set: the 56 mnemonics and 13 address modes of `00_scope.md` R12, operands
as encoded (`30_encoding.md` R93), and one constructor of `Instr` per row of the opcode table (R98). A
16-bit operand is the word `{h, l}` of its two bytes. -/

namespace Sys2Proof

/-- The 56 mnemonics of `30_encoding.md` R98, in the order of the instruction files. -/
inductive Mnemonic
  -- Arithmetic and compare, `41_arithmetic_compare.md`
  | adc | sbc | cmp | cpx | cpy
  -- Shifts and rotates, `42_shift_rotate.md`
  | asl | lsr | rol | ror
  -- Branches and jumps, `43_branches_jumps.md`
  | bpl | bmi | bvc | bvs | bcc | bcs | bne | beq | jmp
  -- Stack, subroutine and interrupt, `44_stack_subroutine_interrupt.md`
  | pha | php | pla | plp | jsr | rts | brk | rti
  -- Loads, stores and transfers, `45_load_store_transfer.md`
  | lda | ldx | ldy | sta | stx | sty | tax | tay | txa
  | tya | tsx | txs
  -- Logic, increments, flags and no-operation, `46_logic_incdec_flags_nop.md`
  | and | ora | eor | bit | inc | dec | inx | iny | dex
  | dey | clc | sec | cli | sei | cld | sed | clv | nop
deriving DecidableEq, Repr

/-- The 13 address modes of `00_scope.md` R12. -/
inductive Mode
  | imp | acc | im | zp | zpx | zpy | abs | absx | absy | absInd | indx | indy | rel
deriving DecidableEq, Repr

/-- An operand that yields an effective address (`40_addressing_modes.md` R123 to R128, R130, R131), with
its operand bytes as encoded. -/
inductive MemOperand
  | zp (l : Byte)
  | zpx (l : Byte)
  | zpy (l : Byte)
  | abs (w : Word)
  | absx (w : Word)
  | absy (w : Word)
  | indx (l : Byte)
  | indy (l : Byte)
deriving DecidableEq, Repr

/-- The operand of an instruction in any mode (`00_scope.md` R10). -/
inductive Operand
  | imp
  | acc
  | im (m : Byte)
  | mem (o : MemOperand)
  | absInd (ptr : Word)
  | rel (off : Byte)
deriving DecidableEq, Repr

/-- The mode of a memory operand. -/
def MemOperand.mode : MemOperand → Mode
  | .zp _ => .zp
  | .zpx _ => .zpx
  | .zpy _ => .zpy
  | .abs _ => .abs
  | .absx _ => .absx
  | .absy _ => .absy
  | .indx _ => .indx
  | .indy _ => .indy

/-- The mode of an operand. -/
def Operand.mode : Operand → Mode
  | .imp => .imp
  | .acc => .acc
  | .im _ => .im
  | .mem o => o.mode
  | .absInd _ => .absInd
  | .rel _ => .rel

/-- The documented instructions, one constructor per row of `30_encoding.md` R98. -/
inductive Instr
  -- Arithmetic and compare, `41_arithmetic_compare.md`
  /-- `ADC #$nn`, opcode `69`: R141, mode R122. -/
  | adcIm (m : Byte)
  /-- `ADC $nn`, opcode `65`: R141, mode R123. -/
  | adcZp (l : Byte)
  /-- `ADC $nn,X`, opcode `75`: R141, mode R124. -/
  | adcZpx (l : Byte)
  /-- `ADC $nnnn`, opcode `6D`: R141, mode R126. -/
  | adcAbs (w : Word)
  /-- `ADC $nnnn,X`, opcode `7D`: R141, mode R127. -/
  | adcAbsx (w : Word)
  /-- `ADC $nnnn,Y`, opcode `79`: R141, mode R128. -/
  | adcAbsy (w : Word)
  /-- `ADC ($nn,X)`, opcode `61`: R141, mode R130. -/
  | adcIndx (l : Byte)
  /-- `ADC ($nn),Y`, opcode `71`: R141, mode R131. -/
  | adcIndy (l : Byte)
  /-- `SBC #$nn`, opcode `E9`: R144, mode R122. -/
  | sbcIm (m : Byte)
  /-- `SBC $nn`, opcode `E5`: R144, mode R123. -/
  | sbcZp (l : Byte)
  /-- `SBC $nn,X`, opcode `F5`: R144, mode R124. -/
  | sbcZpx (l : Byte)
  /-- `SBC $nnnn`, opcode `ED`: R144, mode R126. -/
  | sbcAbs (w : Word)
  /-- `SBC $nnnn,X`, opcode `FD`: R144, mode R127. -/
  | sbcAbsx (w : Word)
  /-- `SBC $nnnn,Y`, opcode `F9`: R144, mode R128. -/
  | sbcAbsy (w : Word)
  /-- `SBC ($nn,X)`, opcode `E1`: R144, mode R130. -/
  | sbcIndx (l : Byte)
  /-- `SBC ($nn),Y`, opcode `F1`: R144, mode R131. -/
  | sbcIndy (l : Byte)
  /-- `CMP #$nn`, opcode `C9`: R146, mode R122. -/
  | cmpIm (m : Byte)
  /-- `CMP $nn`, opcode `C5`: R146, mode R123. -/
  | cmpZp (l : Byte)
  /-- `CMP $nn,X`, opcode `D5`: R146, mode R124. -/
  | cmpZpx (l : Byte)
  /-- `CMP $nnnn`, opcode `CD`: R146, mode R126. -/
  | cmpAbs (w : Word)
  /-- `CMP $nnnn,X`, opcode `DD`: R146, mode R127. -/
  | cmpAbsx (w : Word)
  /-- `CMP $nnnn,Y`, opcode `D9`: R146, mode R128. -/
  | cmpAbsy (w : Word)
  /-- `CMP ($nn,X)`, opcode `C1`: R146, mode R130. -/
  | cmpIndx (l : Byte)
  /-- `CMP ($nn),Y`, opcode `D1`: R146, mode R131. -/
  | cmpIndy (l : Byte)
  /-- `CPX #$nn`, opcode `E0`: R147, mode R122. -/
  | cpxIm (m : Byte)
  /-- `CPX $nn`, opcode `E4`: R147, mode R123. -/
  | cpxZp (l : Byte)
  /-- `CPX $nnnn`, opcode `EC`: R147, mode R126. -/
  | cpxAbs (w : Word)
  /-- `CPY #$nn`, opcode `C0`: R148, mode R122. -/
  | cpyIm (m : Byte)
  /-- `CPY $nn`, opcode `C4`: R148, mode R123. -/
  | cpyZp (l : Byte)
  /-- `CPY $nnnn`, opcode `CC`: R148, mode R126. -/
  | cpyAbs (w : Word)
  -- Shifts and rotates, `42_shift_rotate.md`
  /-- `ASL A`, opcode `0A`: R151, mode R121. -/
  | aslAcc
  /-- `ASL $nn`, opcode `06`: R151, mode R123. -/
  | aslZp (l : Byte)
  /-- `ASL $nn,X`, opcode `16`: R151, mode R124. -/
  | aslZpx (l : Byte)
  /-- `ASL $nnnn`, opcode `0E`: R151, mode R126. -/
  | aslAbs (w : Word)
  /-- `ASL $nnnn,X`, opcode `1E`: R151, mode R127. -/
  | aslAbsx (w : Word)
  /-- `LSR A`, opcode `4A`: R152, mode R121. -/
  | lsrAcc
  /-- `LSR $nn`, opcode `46`: R152, mode R123. -/
  | lsrZp (l : Byte)
  /-- `LSR $nn,X`, opcode `56`: R152, mode R124. -/
  | lsrZpx (l : Byte)
  /-- `LSR $nnnn`, opcode `4E`: R152, mode R126. -/
  | lsrAbs (w : Word)
  /-- `LSR $nnnn,X`, opcode `5E`: R152, mode R127. -/
  | lsrAbsx (w : Word)
  /-- `ROL A`, opcode `2A`: R153, mode R121. -/
  | rolAcc
  /-- `ROL $nn`, opcode `26`: R153, mode R123. -/
  | rolZp (l : Byte)
  /-- `ROL $nn,X`, opcode `36`: R153, mode R124. -/
  | rolZpx (l : Byte)
  /-- `ROL $nnnn`, opcode `2E`: R153, mode R126. -/
  | rolAbs (w : Word)
  /-- `ROL $nnnn,X`, opcode `3E`: R153, mode R127. -/
  | rolAbsx (w : Word)
  /-- `ROR A`, opcode `6A`: R154, mode R121. -/
  | rorAcc
  /-- `ROR $nn`, opcode `66`: R154, mode R123. -/
  | rorZp (l : Byte)
  /-- `ROR $nn,X`, opcode `76`: R154, mode R124. -/
  | rorZpx (l : Byte)
  /-- `ROR $nnnn`, opcode `6E`: R154, mode R126. -/
  | rorAbs (w : Word)
  /-- `ROR $nnnn,X`, opcode `7E`: R154, mode R127. -/
  | rorAbsx (w : Word)
  -- Branches and jumps, `43_branches_jumps.md`
  /-- `BPL label`, opcode `10`: R161, mode R132. -/
  | bpl (off : Byte)
  /-- `BMI label`, opcode `30`: R162, mode R132. -/
  | bmi (off : Byte)
  /-- `BVC label`, opcode `50`: R163, mode R132. -/
  | bvc (off : Byte)
  /-- `BVS label`, opcode `70`: R164, mode R132. -/
  | bvs (off : Byte)
  /-- `BCC label`, opcode `90`: R165, mode R132. -/
  | bcc (off : Byte)
  /-- `BCS label`, opcode `B0`: R166, mode R132. -/
  | bcs (off : Byte)
  /-- `BNE label`, opcode `D0`: R167, mode R132. -/
  | bne (off : Byte)
  /-- `BEQ label`, opcode `F0`: R168, mode R132. -/
  | beq (off : Byte)
  /-- `JMP $nnnn`, opcode `4C`: R169, mode R126. -/
  | jmpAbs (target : Word)
  /-- `JMP ($nnnn)`, opcode `6C`: R170, mode R129. -/
  | jmpAbsInd (ptr : Word)
  -- Stack, subroutine and interrupt, `44_stack_subroutine_interrupt.md`
  /-- `PHA`, opcode `48`: R181, mode R120. -/
  | pha
  /-- `PHP`, opcode `08`: R182, mode R120. -/
  | php
  /-- `PLA`, opcode `68`: R183, mode R120. -/
  | pla
  /-- `PLP`, opcode `28`: R184, mode R120. -/
  | plp
  /-- `JSR $nnnn`, opcode `20`: R185, mode R126. -/
  | jsr (target : Word)
  /-- `RTS`, opcode `60`: R186, mode R120. -/
  | rts
  /-- `BRK`, opcode `00`: R187, mode R120. -/
  | brk
  /-- `RTI`, opcode `40`: R188, mode R120. -/
  | rti
  -- Loads, stores and transfers, `45_load_store_transfer.md`
  /-- `LDA #$nn`, opcode `A9`: R201, mode R122. -/
  | ldaIm (m : Byte)
  /-- `LDA $nn`, opcode `A5`: R201, mode R123. -/
  | ldaZp (l : Byte)
  /-- `LDA $nn,X`, opcode `B5`: R201, mode R124. -/
  | ldaZpx (l : Byte)
  /-- `LDA $nnnn`, opcode `AD`: R201, mode R126. -/
  | ldaAbs (w : Word)
  /-- `LDA $nnnn,X`, opcode `BD`: R201, mode R127. -/
  | ldaAbsx (w : Word)
  /-- `LDA $nnnn,Y`, opcode `B9`: R201, mode R128. -/
  | ldaAbsy (w : Word)
  /-- `LDA ($nn,X)`, opcode `A1`: R201, mode R130. -/
  | ldaIndx (l : Byte)
  /-- `LDA ($nn),Y`, opcode `B1`: R201, mode R131. -/
  | ldaIndy (l : Byte)
  /-- `LDX #$nn`, opcode `A2`: R202, mode R122. -/
  | ldxIm (m : Byte)
  /-- `LDX $nn`, opcode `A6`: R202, mode R123. -/
  | ldxZp (l : Byte)
  /-- `LDX $nn,Y`, opcode `B6`: R202, mode R125. -/
  | ldxZpy (l : Byte)
  /-- `LDX $nnnn`, opcode `AE`: R202, mode R126. -/
  | ldxAbs (w : Word)
  /-- `LDX $nnnn,Y`, opcode `BE`: R202, mode R128. -/
  | ldxAbsy (w : Word)
  /-- `LDY #$nn`, opcode `A0`: R203, mode R122. -/
  | ldyIm (m : Byte)
  /-- `LDY $nn`, opcode `A4`: R203, mode R123. -/
  | ldyZp (l : Byte)
  /-- `LDY $nn,X`, opcode `B4`: R203, mode R124. -/
  | ldyZpx (l : Byte)
  /-- `LDY $nnnn`, opcode `AC`: R203, mode R126. -/
  | ldyAbs (w : Word)
  /-- `LDY $nnnn,X`, opcode `BC`: R203, mode R127. -/
  | ldyAbsx (w : Word)
  /-- `STA $nn`, opcode `85`: R204, mode R123. -/
  | staZp (l : Byte)
  /-- `STA $nn,X`, opcode `95`: R204, mode R124. -/
  | staZpx (l : Byte)
  /-- `STA $nnnn`, opcode `8D`: R204, mode R126. -/
  | staAbs (w : Word)
  /-- `STA $nnnn,X`, opcode `9D`: R204, mode R127. -/
  | staAbsx (w : Word)
  /-- `STA $nnnn,Y`, opcode `99`: R204, mode R128. -/
  | staAbsy (w : Word)
  /-- `STA ($nn,X)`, opcode `81`: R204, mode R130. -/
  | staIndx (l : Byte)
  /-- `STA ($nn),Y`, opcode `91`: R204, mode R131. -/
  | staIndy (l : Byte)
  /-- `STX $nn`, opcode `86`: R205, mode R123. -/
  | stxZp (l : Byte)
  /-- `STX $nn,Y`, opcode `96`: R205, mode R125. -/
  | stxZpy (l : Byte)
  /-- `STX $nnnn`, opcode `8E`: R205, mode R126. -/
  | stxAbs (w : Word)
  /-- `STY $nn`, opcode `84`: R206, mode R123. -/
  | styZp (l : Byte)
  /-- `STY $nn,X`, opcode `94`: R206, mode R124. -/
  | styZpx (l : Byte)
  /-- `STY $nnnn`, opcode `8C`: R206, mode R126. -/
  | styAbs (w : Word)
  /-- `TAX`, opcode `AA`: R207, mode R120. -/
  | tax
  /-- `TAY`, opcode `A8`: R208, mode R120. -/
  | tay
  /-- `TXA`, opcode `8A`: R209, mode R120. -/
  | txa
  /-- `TYA`, opcode `98`: R210, mode R120. -/
  | tya
  /-- `TSX`, opcode `BA`: R211, mode R120. -/
  | tsx
  /-- `TXS`, opcode `9A`: R212, mode R120. -/
  | txs
  -- Logic, increments, flags and no-operation, `46_logic_incdec_flags_nop.md`
  /-- `AND #$nn`, opcode `29`: R221, mode R122. -/
  | andIm (m : Byte)
  /-- `AND $nn`, opcode `25`: R221, mode R123. -/
  | andZp (l : Byte)
  /-- `AND $nn,X`, opcode `35`: R221, mode R124. -/
  | andZpx (l : Byte)
  /-- `AND $nnnn`, opcode `2D`: R221, mode R126. -/
  | andAbs (w : Word)
  /-- `AND $nnnn,X`, opcode `3D`: R221, mode R127. -/
  | andAbsx (w : Word)
  /-- `AND $nnnn,Y`, opcode `39`: R221, mode R128. -/
  | andAbsy (w : Word)
  /-- `AND ($nn,X)`, opcode `21`: R221, mode R130. -/
  | andIndx (l : Byte)
  /-- `AND ($nn),Y`, opcode `31`: R221, mode R131. -/
  | andIndy (l : Byte)
  /-- `ORA #$nn`, opcode `09`: R222, mode R122. -/
  | oraIm (m : Byte)
  /-- `ORA $nn`, opcode `05`: R222, mode R123. -/
  | oraZp (l : Byte)
  /-- `ORA $nn,X`, opcode `15`: R222, mode R124. -/
  | oraZpx (l : Byte)
  /-- `ORA $nnnn`, opcode `0D`: R222, mode R126. -/
  | oraAbs (w : Word)
  /-- `ORA $nnnn,X`, opcode `1D`: R222, mode R127. -/
  | oraAbsx (w : Word)
  /-- `ORA $nnnn,Y`, opcode `19`: R222, mode R128. -/
  | oraAbsy (w : Word)
  /-- `ORA ($nn,X)`, opcode `01`: R222, mode R130. -/
  | oraIndx (l : Byte)
  /-- `ORA ($nn),Y`, opcode `11`: R222, mode R131. -/
  | oraIndy (l : Byte)
  /-- `EOR #$nn`, opcode `49`: R223, mode R122. -/
  | eorIm (m : Byte)
  /-- `EOR $nn`, opcode `45`: R223, mode R123. -/
  | eorZp (l : Byte)
  /-- `EOR $nn,X`, opcode `55`: R223, mode R124. -/
  | eorZpx (l : Byte)
  /-- `EOR $nnnn`, opcode `4D`: R223, mode R126. -/
  | eorAbs (w : Word)
  /-- `EOR $nnnn,X`, opcode `5D`: R223, mode R127. -/
  | eorAbsx (w : Word)
  /-- `EOR $nnnn,Y`, opcode `59`: R223, mode R128. -/
  | eorAbsy (w : Word)
  /-- `EOR ($nn,X)`, opcode `41`: R223, mode R130. -/
  | eorIndx (l : Byte)
  /-- `EOR ($nn),Y`, opcode `51`: R223, mode R131. -/
  | eorIndy (l : Byte)
  /-- `BIT $nn`, opcode `24`: R224, mode R123. -/
  | bitZp (l : Byte)
  /-- `BIT $nnnn`, opcode `2C`: R224, mode R126. -/
  | bitAbs (w : Word)
  /-- `INC $nn`, opcode `E6`: R225, mode R123. -/
  | incZp (l : Byte)
  /-- `INC $nn,X`, opcode `F6`: R225, mode R124. -/
  | incZpx (l : Byte)
  /-- `INC $nnnn`, opcode `EE`: R225, mode R126. -/
  | incAbs (w : Word)
  /-- `INC $nnnn,X`, opcode `FE`: R225, mode R127. -/
  | incAbsx (w : Word)
  /-- `DEC $nn`, opcode `C6`: R226, mode R123. -/
  | decZp (l : Byte)
  /-- `DEC $nn,X`, opcode `D6`: R226, mode R124. -/
  | decZpx (l : Byte)
  /-- `DEC $nnnn`, opcode `CE`: R226, mode R126. -/
  | decAbs (w : Word)
  /-- `DEC $nnnn,X`, opcode `DE`: R226, mode R127. -/
  | decAbsx (w : Word)
  /-- `INX`, opcode `E8`: R227, mode R120. -/
  | inx
  /-- `INY`, opcode `C8`: R228, mode R120. -/
  | iny
  /-- `DEX`, opcode `CA`: R229, mode R120. -/
  | dex
  /-- `DEY`, opcode `88`: R230, mode R120. -/
  | dey
  /-- `CLC`, opcode `18`: R231, mode R120. -/
  | clc
  /-- `SEC`, opcode `38`: R232, mode R120. -/
  | sec
  /-- `CLI`, opcode `58`: R233, mode R120. -/
  | cli
  /-- `SEI`, opcode `78`: R234, mode R120. -/
  | sei
  /-- `CLD`, opcode `D8`: R235, mode R120. -/
  | cld
  /-- `SED`, opcode `F8`: R236, mode R120. -/
  | sed
  /-- `CLV`, opcode `B8`: R237, mode R120. -/
  | clv
  /-- `NOP`, opcode `EA`: R238, mode R120. -/
  | nop
deriving DecidableEq, Repr

/-- The mnemonic of an instruction (R98, column `mnemonic`). -/
def Instr.mnemonic : Instr → Mnemonic
  | .adcIm _ | .adcZp _ | .adcZpx _ | .adcAbs _
  | .adcAbsx _ | .adcAbsy _ | .adcIndx _ | .adcIndy _ => .adc
  | .sbcIm _ | .sbcZp _ | .sbcZpx _ | .sbcAbs _
  | .sbcAbsx _ | .sbcAbsy _ | .sbcIndx _ | .sbcIndy _ => .sbc
  | .cmpIm _ | .cmpZp _ | .cmpZpx _ | .cmpAbs _
  | .cmpAbsx _ | .cmpAbsy _ | .cmpIndx _ | .cmpIndy _ => .cmp
  | .cpxIm _ | .cpxZp _ | .cpxAbs _ => .cpx
  | .cpyIm _ | .cpyZp _ | .cpyAbs _ => .cpy
  | .aslAcc | .aslZp _ | .aslZpx _ | .aslAbs _ | .aslAbsx _ => .asl
  | .lsrAcc | .lsrZp _ | .lsrZpx _ | .lsrAbs _ | .lsrAbsx _ => .lsr
  | .rolAcc | .rolZp _ | .rolZpx _ | .rolAbs _ | .rolAbsx _ => .rol
  | .rorAcc | .rorZp _ | .rorZpx _ | .rorAbs _ | .rorAbsx _ => .ror
  | .bpl _ => .bpl
  | .bmi _ => .bmi
  | .bvc _ => .bvc
  | .bvs _ => .bvs
  | .bcc _ => .bcc
  | .bcs _ => .bcs
  | .bne _ => .bne
  | .beq _ => .beq
  | .jmpAbs _ | .jmpAbsInd _ => .jmp
  | .pha => .pha
  | .php => .php
  | .pla => .pla
  | .plp => .plp
  | .jsr _ => .jsr
  | .rts => .rts
  | .brk => .brk
  | .rti => .rti
  | .ldaIm _ | .ldaZp _ | .ldaZpx _ | .ldaAbs _
  | .ldaAbsx _ | .ldaAbsy _ | .ldaIndx _ | .ldaIndy _ => .lda
  | .ldxIm _ | .ldxZp _ | .ldxZpy _ | .ldxAbs _ | .ldxAbsy _ => .ldx
  | .ldyIm _ | .ldyZp _ | .ldyZpx _ | .ldyAbs _ | .ldyAbsx _ => .ldy
  | .staZp _ | .staZpx _ | .staAbs _ | .staAbsx _ | .staAbsy _ | .staIndx _ | .staIndy _ => .sta
  | .stxZp _ | .stxZpy _ | .stxAbs _ => .stx
  | .styZp _ | .styZpx _ | .styAbs _ => .sty
  | .tax => .tax
  | .tay => .tay
  | .txa => .txa
  | .tya => .tya
  | .tsx => .tsx
  | .txs => .txs
  | .andIm _ | .andZp _ | .andZpx _ | .andAbs _
  | .andAbsx _ | .andAbsy _ | .andIndx _ | .andIndy _ => .and
  | .oraIm _ | .oraZp _ | .oraZpx _ | .oraAbs _
  | .oraAbsx _ | .oraAbsy _ | .oraIndx _ | .oraIndy _ => .ora
  | .eorIm _ | .eorZp _ | .eorZpx _ | .eorAbs _
  | .eorAbsx _ | .eorAbsy _ | .eorIndx _ | .eorIndy _ => .eor
  | .bitZp _ | .bitAbs _ => .bit
  | .incZp _ | .incZpx _ | .incAbs _ | .incAbsx _ => .inc
  | .decZp _ | .decZpx _ | .decAbs _ | .decAbsx _ => .dec
  | .inx => .inx
  | .iny => .iny
  | .dex => .dex
  | .dey => .dey
  | .clc => .clc
  | .sec => .sec
  | .cli => .cli
  | .sei => .sei
  | .cld => .cld
  | .sed => .sed
  | .clv => .clv
  | .nop => .nop

/-- The operand of an instruction (R98, column `mode`, with the operand bytes). -/
def Instr.operand : Instr → Operand
  | .adcIm m => .im m
  | .adcZp l => .mem (.zp l)
  | .adcZpx l => .mem (.zpx l)
  | .adcAbs w => .mem (.abs w)
  | .adcAbsx w => .mem (.absx w)
  | .adcAbsy w => .mem (.absy w)
  | .adcIndx l => .mem (.indx l)
  | .adcIndy l => .mem (.indy l)
  | .sbcIm m => .im m
  | .sbcZp l => .mem (.zp l)
  | .sbcZpx l => .mem (.zpx l)
  | .sbcAbs w => .mem (.abs w)
  | .sbcAbsx w => .mem (.absx w)
  | .sbcAbsy w => .mem (.absy w)
  | .sbcIndx l => .mem (.indx l)
  | .sbcIndy l => .mem (.indy l)
  | .cmpIm m => .im m
  | .cmpZp l => .mem (.zp l)
  | .cmpZpx l => .mem (.zpx l)
  | .cmpAbs w => .mem (.abs w)
  | .cmpAbsx w => .mem (.absx w)
  | .cmpAbsy w => .mem (.absy w)
  | .cmpIndx l => .mem (.indx l)
  | .cmpIndy l => .mem (.indy l)
  | .cpxIm m => .im m
  | .cpxZp l => .mem (.zp l)
  | .cpxAbs w => .mem (.abs w)
  | .cpyIm m => .im m
  | .cpyZp l => .mem (.zp l)
  | .cpyAbs w => .mem (.abs w)
  | .aslAcc => .acc
  | .aslZp l => .mem (.zp l)
  | .aslZpx l => .mem (.zpx l)
  | .aslAbs w => .mem (.abs w)
  | .aslAbsx w => .mem (.absx w)
  | .lsrAcc => .acc
  | .lsrZp l => .mem (.zp l)
  | .lsrZpx l => .mem (.zpx l)
  | .lsrAbs w => .mem (.abs w)
  | .lsrAbsx w => .mem (.absx w)
  | .rolAcc => .acc
  | .rolZp l => .mem (.zp l)
  | .rolZpx l => .mem (.zpx l)
  | .rolAbs w => .mem (.abs w)
  | .rolAbsx w => .mem (.absx w)
  | .rorAcc => .acc
  | .rorZp l => .mem (.zp l)
  | .rorZpx l => .mem (.zpx l)
  | .rorAbs w => .mem (.abs w)
  | .rorAbsx w => .mem (.absx w)
  | .bpl off => .rel off
  | .bmi off => .rel off
  | .bvc off => .rel off
  | .bvs off => .rel off
  | .bcc off => .rel off
  | .bcs off => .rel off
  | .bne off => .rel off
  | .beq off => .rel off
  | .jmpAbs target => .mem (.abs target)
  | .jmpAbsInd ptr => .absInd ptr
  | .pha => .imp
  | .php => .imp
  | .pla => .imp
  | .plp => .imp
  | .jsr target => .mem (.abs target)
  | .rts => .imp
  | .brk => .imp
  | .rti => .imp
  | .ldaIm m => .im m
  | .ldaZp l => .mem (.zp l)
  | .ldaZpx l => .mem (.zpx l)
  | .ldaAbs w => .mem (.abs w)
  | .ldaAbsx w => .mem (.absx w)
  | .ldaAbsy w => .mem (.absy w)
  | .ldaIndx l => .mem (.indx l)
  | .ldaIndy l => .mem (.indy l)
  | .ldxIm m => .im m
  | .ldxZp l => .mem (.zp l)
  | .ldxZpy l => .mem (.zpy l)
  | .ldxAbs w => .mem (.abs w)
  | .ldxAbsy w => .mem (.absy w)
  | .ldyIm m => .im m
  | .ldyZp l => .mem (.zp l)
  | .ldyZpx l => .mem (.zpx l)
  | .ldyAbs w => .mem (.abs w)
  | .ldyAbsx w => .mem (.absx w)
  | .staZp l => .mem (.zp l)
  | .staZpx l => .mem (.zpx l)
  | .staAbs w => .mem (.abs w)
  | .staAbsx w => .mem (.absx w)
  | .staAbsy w => .mem (.absy w)
  | .staIndx l => .mem (.indx l)
  | .staIndy l => .mem (.indy l)
  | .stxZp l => .mem (.zp l)
  | .stxZpy l => .mem (.zpy l)
  | .stxAbs w => .mem (.abs w)
  | .styZp l => .mem (.zp l)
  | .styZpx l => .mem (.zpx l)
  | .styAbs w => .mem (.abs w)
  | .tax => .imp
  | .tay => .imp
  | .txa => .imp
  | .tya => .imp
  | .tsx => .imp
  | .txs => .imp
  | .andIm m => .im m
  | .andZp l => .mem (.zp l)
  | .andZpx l => .mem (.zpx l)
  | .andAbs w => .mem (.abs w)
  | .andAbsx w => .mem (.absx w)
  | .andAbsy w => .mem (.absy w)
  | .andIndx l => .mem (.indx l)
  | .andIndy l => .mem (.indy l)
  | .oraIm m => .im m
  | .oraZp l => .mem (.zp l)
  | .oraZpx l => .mem (.zpx l)
  | .oraAbs w => .mem (.abs w)
  | .oraAbsx w => .mem (.absx w)
  | .oraAbsy w => .mem (.absy w)
  | .oraIndx l => .mem (.indx l)
  | .oraIndy l => .mem (.indy l)
  | .eorIm m => .im m
  | .eorZp l => .mem (.zp l)
  | .eorZpx l => .mem (.zpx l)
  | .eorAbs w => .mem (.abs w)
  | .eorAbsx w => .mem (.absx w)
  | .eorAbsy w => .mem (.absy w)
  | .eorIndx l => .mem (.indx l)
  | .eorIndy l => .mem (.indy l)
  | .bitZp l => .mem (.zp l)
  | .bitAbs w => .mem (.abs w)
  | .incZp l => .mem (.zp l)
  | .incZpx l => .mem (.zpx l)
  | .incAbs w => .mem (.abs w)
  | .incAbsx w => .mem (.absx w)
  | .decZp l => .mem (.zp l)
  | .decZpx l => .mem (.zpx l)
  | .decAbs w => .mem (.abs w)
  | .decAbsx w => .mem (.absx w)
  | .inx => .imp
  | .iny => .imp
  | .dex => .imp
  | .dey => .imp
  | .clc => .imp
  | .sec => .imp
  | .cli => .imp
  | .sei => .imp
  | .cld => .imp
  | .sed => .imp
  | .clv => .imp
  | .nop => .imp

/-- The address mode of an instruction (R98, column `mode`). -/
def Instr.mode (i : Instr) : Mode := i.operand.mode

end Sys2Proof
end

