-- ==== Sys2Proof/Machine/Operands.lean ====
section
/-! DEFINITION. The effective-address calculator of `40_addressing_modes.md`: for each memory operand its
effective address and the bus accesses of each access kind in order, and the shared shapes of meaning
built on them. Every operation starts after the operand bytes are fetched. -/

namespace Sys2Proof.Machine

/-- The address before the carry into the high byte, `partial` of R127, R128, R131. -/
def partialAddr (base : Word) (index : Byte) : Word := mkWord (hi base) (lo base + index)

/-- `crossed` of R127, R128, R131: the low-byte addition overflows (R133). -/
def pageCrossed (base : Word) (index : Byte) : Bool :=
  decide (256 ≤ (lo base).toNat + index.toNat)

/-- The pointer `{ph, pl}` of `INDX` (R130): both bytes from page 0. -/
def indxPointer (l : Byte) (s : State) : Word :=
  mkWord (s.load (zext16 (l + s.x + 1#8))) (s.load (zext16 (l + s.x)))

/-- The pointer `{ph, pl}` of `INDY` (R131): both bytes from page 0. -/
def indyPointer (l : Byte) (s : State) : Word :=
  mkWord (s.load (zext16 (l + 1#8))) (s.load (zext16 l))

end Sys2Proof.Machine

namespace Sys2Proof

open Sys2Proof.Machine

/-- The effective address `EA` of a memory operand, R123 to R128, R130, R131; modulo 65536 (R135). -/
def MemOperand.ea (o : MemOperand) (s : State) : Word :=
  match o with
  | .zp l => zext16 l
  | .zpx l => zext16 (l + s.x)
  | .zpy l => zext16 (l + s.y)
  | .abs w => w
  | .absx w => w + zext16 s.x
  | .absy w => w + zext16 s.y
  | .indx l => indxPointer l s
  | .indy l => indyPointer l s + zext16 s.y

/-- The base and index of the modes whose indexing can cross a page (R133): `ABSX`, `ABSY`, `INDY`. -/
def MemOperand.indexing? (o : MemOperand) (s : State) : Option (Word × Byte) :=
  match o with
  | .absx w => some (w, s.x)
  | .absy w => some (w, s.y)
  | .indy l => some (indyPointer l s, s.y)
  | .zp _ | .zpx _ | .zpy _ | .abs _ | .indx _ => none

/-- The accesses a mode makes on the way to its effective address: the dummy read of the unindexed
zero-page address (R124, R125, R130) and the pointer reads (R130, R131). -/
def MemOperand.pointerReads (o : MemOperand) (s : State) : State :=
  match o with
  | .zpx l | .zpy l => s.busRead (zext16 l)
  | .indx l =>
    ((s.busRead (zext16 l)).busRead (zext16 (l + s.x))).busRead (zext16 (l + s.x + 1#8))
  | .indy l => (s.busRead (zext16 l)).busRead (zext16 (l + 1#8))
  | .zp _ | .abs _ | .absx _ | .absy _ => s

/-- The dummy read of a `read` at the partial address, made only when the indexing crosses a page (R127,
R128, R131). -/
def MemOperand.fixupOnCross (o : MemOperand) (s : State) : State :=
  match o.indexing? s with
  | some (base, index) => if pageCrossed base index then s.busRead (partialAddr base index) else s
  | none => s

/-- The dummy read of a `write` or `rmw` at the partial address, made always (R127, R128, R131). -/
def MemOperand.fixupAlways (o : MemOperand) (s : State) : State :=
  match o.indexing? s with
  | some (base, index) => s.busRead (partialAddr base index)
  | none => s

/-- The operand value `M` of a `read` (`00_scope.md` R10): the byte at `EA`. -/
def MemOperand.value (o : MemOperand) (s : State) : Byte := s.load (o.ea s)

/-- The accesses of kind `read`, the data read last. -/
def MemOperand.readAccesses (o : MemOperand) (s : State) : State :=
  (o.fixupOnCross (o.pointerReads s)).busRead (o.ea s)

/-- The accesses of kind `write`: one `MemWrite(EA, 1, w)` last. -/
def MemOperand.store (o : MemOperand) (w : Byte) (s : State) : State :=
  (o.fixupAlways (o.pointerReads s)).busWrite (o.ea s) w

/-- The accesses of kind `rmw` up to the dummy write of the unmodified byte (`20_memory.md` R68). -/
def MemOperand.dummyWritten (o : MemOperand) (s : State) : State :=
  ((o.fixupAlways (o.pointerReads s)).busRead (o.ea s)).busWrite (o.ea s) (o.value s)

/-- `Rmw(EA, f)` of `20_memory.md` R68 after the mode's accesses: load `old`, store `old` back, store the
byte of `f old`, which may also write flags. -/
def MemOperand.rmw (o : MemOperand) (f : Byte → State → Byte × State) (s : State) : State :=
  let result := f (o.value s) (o.dummyWritten s)
  result.2.busWrite (o.ea s) result.1

end Sys2Proof

namespace Sys2Proof.Machine

/-- A `read` instruction in mode `IM` (R122): the operand byte is the value. -/
def readIm (f : Byte → State → State) (m : Byte) (s : State) : Result := .next (f m s)

/-- A `read` instruction in a memory mode. -/
def readMem (f : Byte → State → State) (o : MemOperand) (s : State) : Result :=
  .next (f (o.value s) (o.readAccesses s))

/-- A `write` instruction that stores the byte `w`. -/
def storeMem (w : Byte) (o : MemOperand) (s : State) : Result := .next (o.store w s)

/-- An `rmw` instruction. -/
def rmwMem (f : Byte → State → Byte × State) (o : MemOperand) (s : State) : Result :=
  .next (o.rmw f s)

/-- An instruction of kind `implied` (R120): `DummyRead(PC)`, then the effect. -/
def implied (f : State → State) (s : State) : Result := .next (f (s.busRead s.pc))

/-- A shift or rotate of the accumulator (R121): `DummyRead(PC)`, then `A <- f(A)`. -/
def accumulator (f : Byte → State → Byte × State) (s : State) : Result :=
  .next ((f s.a (s.busRead s.pc)).2.setA (f s.a (s.busRead s.pc)).1)

/-- The target of a branch (R132): the address after the operand plus the signed offset. -/
def branchTarget (off : Byte) (s : State) : Word := s.pc + sext16 off

/-- A conditional branch, R132 and `43_branches_jumps.md` R160: `s.pc` is `PC_after_operand`. -/
def branch (cond : Bool) (off : Byte) (s : State) : Result :=
  if cond then
    let target := branchTarget off s
    let dummy := s.busRead s.pc
    let fixed := if hi target = hi s.pc then dummy
      else dummy.busRead (mkWord (hi s.pc) (lo target))
    .next (fixed.setPc target)
  else .next s

end Sys2Proof.Machine
end

