-- ==== Sys2Proof/Machine/Arithmetic.lean ====
section
/-! DEFINITION. Arithmetic and compare, `41_arithmetic_compare.md`: one meaning per
instruction, over the shared operations. A meaning starts after the instruction's bytes are fetched, so
`s.pc` is the address after its last operand byte (`10_state.md` R28). -/

namespace Sys2Proof.Machine

/-- `ADC #$nn`, opcode `69`: R141, mode R122. -/
def execAdcIm (m : Byte) (s : State) : Result :=
  readIm adc m s

/-- `ADC $nn`, opcode `65`: R141, mode R123. -/
def execAdcZp (l : Byte) (s : State) : Result :=
  readMem adc (.zp l) s

/-- `ADC $nn,X`, opcode `75`: R141, mode R124. -/
def execAdcZpx (l : Byte) (s : State) : Result :=
  readMem adc (.zpx l) s

/-- `ADC $nnnn`, opcode `6D`: R141, mode R126. -/
def execAdcAbs (w : Word) (s : State) : Result :=
  readMem adc (.abs w) s

/-- `ADC $nnnn,X`, opcode `7D`: R141, mode R127. -/
def execAdcAbsx (w : Word) (s : State) : Result :=
  readMem adc (.absx w) s

/-- `ADC $nnnn,Y`, opcode `79`: R141, mode R128. -/
def execAdcAbsy (w : Word) (s : State) : Result :=
  readMem adc (.absy w) s

/-- `ADC ($nn,X)`, opcode `61`: R141, mode R130. -/
def execAdcIndx (l : Byte) (s : State) : Result :=
  readMem adc (.indx l) s

/-- `ADC ($nn),Y`, opcode `71`: R141, mode R131. -/
def execAdcIndy (l : Byte) (s : State) : Result :=
  readMem adc (.indy l) s

/-- `SBC #$nn`, opcode `E9`: R144, mode R122. -/
def execSbcIm (m : Byte) (s : State) : Result :=
  readIm sbc m s

/-- `SBC $nn`, opcode `E5`: R144, mode R123. -/
def execSbcZp (l : Byte) (s : State) : Result :=
  readMem sbc (.zp l) s

/-- `SBC $nn,X`, opcode `F5`: R144, mode R124. -/
def execSbcZpx (l : Byte) (s : State) : Result :=
  readMem sbc (.zpx l) s

/-- `SBC $nnnn`, opcode `ED`: R144, mode R126. -/
def execSbcAbs (w : Word) (s : State) : Result :=
  readMem sbc (.abs w) s

/-- `SBC $nnnn,X`, opcode `FD`: R144, mode R127. -/
def execSbcAbsx (w : Word) (s : State) : Result :=
  readMem sbc (.absx w) s

/-- `SBC $nnnn,Y`, opcode `F9`: R144, mode R128. -/
def execSbcAbsy (w : Word) (s : State) : Result :=
  readMem sbc (.absy w) s

/-- `SBC ($nn,X)`, opcode `E1`: R144, mode R130. -/
def execSbcIndx (l : Byte) (s : State) : Result :=
  readMem sbc (.indx l) s

/-- `SBC ($nn),Y`, opcode `F1`: R144, mode R131. -/
def execSbcIndy (l : Byte) (s : State) : Result :=
  readMem sbc (.indy l) s

/-- `CMP #$nn`, opcode `C9`: R146, mode R122. -/
def execCmpIm (m : Byte) (s : State) : Result :=
  readIm cmp m s

/-- `CMP $nn`, opcode `C5`: R146, mode R123. -/
def execCmpZp (l : Byte) (s : State) : Result :=
  readMem cmp (.zp l) s

/-- `CMP $nn,X`, opcode `D5`: R146, mode R124. -/
def execCmpZpx (l : Byte) (s : State) : Result :=
  readMem cmp (.zpx l) s

/-- `CMP $nnnn`, opcode `CD`: R146, mode R126. -/
def execCmpAbs (w : Word) (s : State) : Result :=
  readMem cmp (.abs w) s

/-- `CMP $nnnn,X`, opcode `DD`: R146, mode R127. -/
def execCmpAbsx (w : Word) (s : State) : Result :=
  readMem cmp (.absx w) s

/-- `CMP $nnnn,Y`, opcode `D9`: R146, mode R128. -/
def execCmpAbsy (w : Word) (s : State) : Result :=
  readMem cmp (.absy w) s

/-- `CMP ($nn,X)`, opcode `C1`: R146, mode R130. -/
def execCmpIndx (l : Byte) (s : State) : Result :=
  readMem cmp (.indx l) s

/-- `CMP ($nn),Y`, opcode `D1`: R146, mode R131. -/
def execCmpIndy (l : Byte) (s : State) : Result :=
  readMem cmp (.indy l) s

/-- `CPX #$nn`, opcode `E0`: R147, mode R122. -/
def execCpxIm (m : Byte) (s : State) : Result :=
  readIm cpx m s

/-- `CPX $nn`, opcode `E4`: R147, mode R123. -/
def execCpxZp (l : Byte) (s : State) : Result :=
  readMem cpx (.zp l) s

/-- `CPX $nnnn`, opcode `EC`: R147, mode R126. -/
def execCpxAbs (w : Word) (s : State) : Result :=
  readMem cpx (.abs w) s

/-- `CPY #$nn`, opcode `C0`: R148, mode R122. -/
def execCpyIm (m : Byte) (s : State) : Result :=
  readIm cpy m s

/-- `CPY $nn`, opcode `C4`: R148, mode R123. -/
def execCpyZp (l : Byte) (s : State) : Result :=
  readMem cpy (.zp l) s

/-- `CPY $nnnn`, opcode `CC`: R148, mode R126. -/
def execCpyAbs (w : Word) (s : State) : Result :=
  readMem cpy (.abs w) s

end Sys2Proof.Machine
end

