-- ==== Sys2Proof/Machine/Branch.lean ====
section
/-! DEFINITION. Branches and jumps, `43_branches_jumps.md`: one meaning per
instruction, over the shared operations. A meaning starts after the instruction's bytes are fetched, so
`s.pc` is the address after its last operand byte (`10_state.md` R28). -/

namespace Sys2Proof.Machine

/-- `BPL label`, opcode `10`: R161, mode R132. -/
def execBpl (off : Byte) (s : State) : Result :=
  branch (!s.n) off s

/-- `BMI label`, opcode `30`: R162, mode R132. -/
def execBmi (off : Byte) (s : State) : Result :=
  branch s.n off s

/-- `BVC label`, opcode `50`: R163, mode R132. -/
def execBvc (off : Byte) (s : State) : Result :=
  branch (!s.v) off s

/-- `BVS label`, opcode `70`: R164, mode R132. -/
def execBvs (off : Byte) (s : State) : Result :=
  branch s.v off s

/-- `BCC label`, opcode `90`: R165, mode R132. -/
def execBcc (off : Byte) (s : State) : Result :=
  branch (!s.c) off s

/-- `BCS label`, opcode `B0`: R166, mode R132. -/
def execBcs (off : Byte) (s : State) : Result :=
  branch s.c off s

/-- `BNE label`, opcode `D0`: R167, mode R132. -/
def execBne (off : Byte) (s : State) : Result :=
  branch (!s.z) off s

/-- `BEQ label`, opcode `F0`: R168, mode R132. -/
def execBeq (off : Byte) (s : State) : Result :=
  branch s.z off s

/-- `JMP $nnnn`, opcode `4C`: R169, mode R126. -/
def execJmpAbs (target : Word) (s : State) : Result :=
  .next (s.setPc target)

/-- `JMP ($nnnn)`, opcode `6C`: R170, mode R129. The high byte comes from the page of `ptr` (the page-boundary bug). -/
def execJmpAbsInd (ptr : Word) (s : State) : Result :=
  let tl := s.load ptr
  let thAddr := mkWord (hi ptr) (lo ptr + 1#8)
  .next (((s.busRead ptr).busRead thAddr).setPc (mkWord (s.load thAddr) tl))

end Sys2Proof.Machine
end

