-- ==== Sys2Proof/Machine/LoadStore.lean ====
section
/-! DEFINITION. Loads, stores and transfers, `45_load_store_transfer.md`: one meaning per
instruction, over the shared operations. A meaning starts after the instruction's bytes are fetched, so
`s.pc` is the address after its last operand byte (`10_state.md` R28). -/

namespace Sys2Proof.Machine

/-- `LDA #$nn`, opcode `A9`: R201, mode R122. -/
def execLdaIm (m : Byte) (s : State) : Result :=
  readIm loadA m s

/-- `LDA $nn`, opcode `A5`: R201, mode R123. -/
def execLdaZp (l : Byte) (s : State) : Result :=
  readMem loadA (.zp l) s

/-- `LDA $nn,X`, opcode `B5`: R201, mode R124. -/
def execLdaZpx (l : Byte) (s : State) : Result :=
  readMem loadA (.zpx l) s

/-- `LDA $nnnn`, opcode `AD`: R201, mode R126. -/
def execLdaAbs (w : Word) (s : State) : Result :=
  readMem loadA (.abs w) s

/-- `LDA $nnnn,X`, opcode `BD`: R201, mode R127. -/
def execLdaAbsx (w : Word) (s : State) : Result :=
  readMem loadA (.absx w) s

/-- `LDA $nnnn,Y`, opcode `B9`: R201, mode R128. -/
def execLdaAbsy (w : Word) (s : State) : Result :=
  readMem loadA (.absy w) s

/-- `LDA ($nn,X)`, opcode `A1`: R201, mode R130. -/
def execLdaIndx (l : Byte) (s : State) : Result :=
  readMem loadA (.indx l) s

/-- `LDA ($nn),Y`, opcode `B1`: R201, mode R131. -/
def execLdaIndy (l : Byte) (s : State) : Result :=
  readMem loadA (.indy l) s

/-- `LDX #$nn`, opcode `A2`: R202, mode R122. -/
def execLdxIm (m : Byte) (s : State) : Result :=
  readIm loadX m s

/-- `LDX $nn`, opcode `A6`: R202, mode R123. -/
def execLdxZp (l : Byte) (s : State) : Result :=
  readMem loadX (.zp l) s

/-- `LDX $nn,Y`, opcode `B6`: R202, mode R125. -/
def execLdxZpy (l : Byte) (s : State) : Result :=
  readMem loadX (.zpy l) s

/-- `LDX $nnnn`, opcode `AE`: R202, mode R126. -/
def execLdxAbs (w : Word) (s : State) : Result :=
  readMem loadX (.abs w) s

/-- `LDX $nnnn,Y`, opcode `BE`: R202, mode R128. -/
def execLdxAbsy (w : Word) (s : State) : Result :=
  readMem loadX (.absy w) s

/-- `LDY #$nn`, opcode `A0`: R203, mode R122. -/
def execLdyIm (m : Byte) (s : State) : Result :=
  readIm loadY m s

/-- `LDY $nn`, opcode `A4`: R203, mode R123. -/
def execLdyZp (l : Byte) (s : State) : Result :=
  readMem loadY (.zp l) s

/-- `LDY $nn,X`, opcode `B4`: R203, mode R124. -/
def execLdyZpx (l : Byte) (s : State) : Result :=
  readMem loadY (.zpx l) s

/-- `LDY $nnnn`, opcode `AC`: R203, mode R126. -/
def execLdyAbs (w : Word) (s : State) : Result :=
  readMem loadY (.abs w) s

/-- `LDY $nnnn,X`, opcode `BC`: R203, mode R127. -/
def execLdyAbsx (w : Word) (s : State) : Result :=
  readMem loadY (.absx w) s

/-- `STA $nn`, opcode `85`: R204, mode R123. -/
def execStaZp (l : Byte) (s : State) : Result :=
  storeMem s.a (.zp l) s

/-- `STA $nn,X`, opcode `95`: R204, mode R124. -/
def execStaZpx (l : Byte) (s : State) : Result :=
  storeMem s.a (.zpx l) s

/-- `STA $nnnn`, opcode `8D`: R204, mode R126. -/
def execStaAbs (w : Word) (s : State) : Result :=
  storeMem s.a (.abs w) s

/-- `STA $nnnn,X`, opcode `9D`: R204, mode R127. -/
def execStaAbsx (w : Word) (s : State) : Result :=
  storeMem s.a (.absx w) s

/-- `STA $nnnn,Y`, opcode `99`: R204, mode R128. -/
def execStaAbsy (w : Word) (s : State) : Result :=
  storeMem s.a (.absy w) s

/-- `STA ($nn,X)`, opcode `81`: R204, mode R130. -/
def execStaIndx (l : Byte) (s : State) : Result :=
  storeMem s.a (.indx l) s

/-- `STA ($nn),Y`, opcode `91`: R204, mode R131. -/
def execStaIndy (l : Byte) (s : State) : Result :=
  storeMem s.a (.indy l) s

/-- `STX $nn`, opcode `86`: R205, mode R123. -/
def execStxZp (l : Byte) (s : State) : Result :=
  storeMem s.x (.zp l) s

/-- `STX $nn,Y`, opcode `96`: R205, mode R125. -/
def execStxZpy (l : Byte) (s : State) : Result :=
  storeMem s.x (.zpy l) s

/-- `STX $nnnn`, opcode `8E`: R205, mode R126. -/
def execStxAbs (w : Word) (s : State) : Result :=
  storeMem s.x (.abs w) s

/-- `STY $nn`, opcode `84`: R206, mode R123. -/
def execStyZp (l : Byte) (s : State) : Result :=
  storeMem s.y (.zp l) s

/-- `STY $nn,X`, opcode `94`: R206, mode R124. -/
def execStyZpx (l : Byte) (s : State) : Result :=
  storeMem s.y (.zpx l) s

/-- `STY $nnnn`, opcode `8C`: R206, mode R126. -/
def execStyAbs (w : Word) (s : State) : Result :=
  storeMem s.y (.abs w) s

/-- `TAX`, opcode `AA`: R207, mode R120. -/
def execTax (s : State) : Result :=
  implied (fun t => loadX t.a t) s

/-- `TAY`, opcode `A8`: R208, mode R120. -/
def execTay (s : State) : Result :=
  implied (fun t => loadY t.a t) s

/-- `TXA`, opcode `8A`: R209, mode R120. -/
def execTxa (s : State) : Result :=
  implied (fun t => loadA t.x t) s

/-- `TYA`, opcode `98`: R210, mode R120. -/
def execTya (s : State) : Result :=
  implied (fun t => loadA t.y t) s

/-- `TSX`, opcode `BA`: R211, mode R120. -/
def execTsx (s : State) : Result :=
  implied (fun t => loadX t.sp t) s

/-- `TXS`, opcode `9A`: R212, mode R120. -/
def execTxs (s : State) : Result :=
  implied (fun t => t.setSp t.x) s

end Sys2Proof.Machine
end

