-- ==== Sys2Proof/Machine/Logic.lean ====
section
/-! DEFINITION. Logic, increments, flags and no-operation, `46_logic_incdec_flags_nop.md`: one meaning per
instruction, over the shared operations. A meaning starts after the instruction's bytes are fetched, so
`s.pc` is the address after its last operand byte (`10_state.md` R28). -/

namespace Sys2Proof.Machine

/-- `AND #$nn`, opcode `29`: R221, mode R122. -/
def execAndIm (m : Byte) (s : State) : Result :=
  readIm andA m s

/-- `AND $nn`, opcode `25`: R221, mode R123. -/
def execAndZp (l : Byte) (s : State) : Result :=
  readMem andA (.zp l) s

/-- `AND $nn,X`, opcode `35`: R221, mode R124. -/
def execAndZpx (l : Byte) (s : State) : Result :=
  readMem andA (.zpx l) s

/-- `AND $nnnn`, opcode `2D`: R221, mode R126. -/
def execAndAbs (w : Word) (s : State) : Result :=
  readMem andA (.abs w) s

/-- `AND $nnnn,X`, opcode `3D`: R221, mode R127. -/
def execAndAbsx (w : Word) (s : State) : Result :=
  readMem andA (.absx w) s

/-- `AND $nnnn,Y`, opcode `39`: R221, mode R128. -/
def execAndAbsy (w : Word) (s : State) : Result :=
  readMem andA (.absy w) s

/-- `AND ($nn,X)`, opcode `21`: R221, mode R130. -/
def execAndIndx (l : Byte) (s : State) : Result :=
  readMem andA (.indx l) s

/-- `AND ($nn),Y`, opcode `31`: R221, mode R131. -/
def execAndIndy (l : Byte) (s : State) : Result :=
  readMem andA (.indy l) s

/-- `ORA #$nn`, opcode `09`: R222, mode R122. -/
def execOraIm (m : Byte) (s : State) : Result :=
  readIm oraA m s

/-- `ORA $nn`, opcode `05`: R222, mode R123. -/
def execOraZp (l : Byte) (s : State) : Result :=
  readMem oraA (.zp l) s

/-- `ORA $nn,X`, opcode `15`: R222, mode R124. -/
def execOraZpx (l : Byte) (s : State) : Result :=
  readMem oraA (.zpx l) s

/-- `ORA $nnnn`, opcode `0D`: R222, mode R126. -/
def execOraAbs (w : Word) (s : State) : Result :=
  readMem oraA (.abs w) s

/-- `ORA $nnnn,X`, opcode `1D`: R222, mode R127. -/
def execOraAbsx (w : Word) (s : State) : Result :=
  readMem oraA (.absx w) s

/-- `ORA $nnnn,Y`, opcode `19`: R222, mode R128. -/
def execOraAbsy (w : Word) (s : State) : Result :=
  readMem oraA (.absy w) s

/-- `ORA ($nn,X)`, opcode `01`: R222, mode R130. -/
def execOraIndx (l : Byte) (s : State) : Result :=
  readMem oraA (.indx l) s

/-- `ORA ($nn),Y`, opcode `11`: R222, mode R131. -/
def execOraIndy (l : Byte) (s : State) : Result :=
  readMem oraA (.indy l) s

/-- `EOR #$nn`, opcode `49`: R223, mode R122. -/
def execEorIm (m : Byte) (s : State) : Result :=
  readIm eorA m s

/-- `EOR $nn`, opcode `45`: R223, mode R123. -/
def execEorZp (l : Byte) (s : State) : Result :=
  readMem eorA (.zp l) s

/-- `EOR $nn,X`, opcode `55`: R223, mode R124. -/
def execEorZpx (l : Byte) (s : State) : Result :=
  readMem eorA (.zpx l) s

/-- `EOR $nnnn`, opcode `4D`: R223, mode R126. -/
def execEorAbs (w : Word) (s : State) : Result :=
  readMem eorA (.abs w) s

/-- `EOR $nnnn,X`, opcode `5D`: R223, mode R127. -/
def execEorAbsx (w : Word) (s : State) : Result :=
  readMem eorA (.absx w) s

/-- `EOR $nnnn,Y`, opcode `59`: R223, mode R128. -/
def execEorAbsy (w : Word) (s : State) : Result :=
  readMem eorA (.absy w) s

/-- `EOR ($nn,X)`, opcode `41`: R223, mode R130. -/
def execEorIndx (l : Byte) (s : State) : Result :=
  readMem eorA (.indx l) s

/-- `EOR ($nn),Y`, opcode `51`: R223, mode R131. -/
def execEorIndy (l : Byte) (s : State) : Result :=
  readMem eorA (.indy l) s

/-- `BIT $nn`, opcode `24`: R224, mode R123. -/
def execBitZp (l : Byte) (s : State) : Result :=
  readMem bitTest (.zp l) s

/-- `BIT $nnnn`, opcode `2C`: R224, mode R126. -/
def execBitAbs (w : Word) (s : State) : Result :=
  readMem bitTest (.abs w) s

/-- `INC $nn`, opcode `E6`: R225, mode R123. -/
def execIncZp (l : Byte) (s : State) : Result :=
  rmwMem incF (.zp l) s

/-- `INC $nn,X`, opcode `F6`: R225, mode R124. -/
def execIncZpx (l : Byte) (s : State) : Result :=
  rmwMem incF (.zpx l) s

/-- `INC $nnnn`, opcode `EE`: R225, mode R126. -/
def execIncAbs (w : Word) (s : State) : Result :=
  rmwMem incF (.abs w) s

/-- `INC $nnnn,X`, opcode `FE`: R225, mode R127. -/
def execIncAbsx (w : Word) (s : State) : Result :=
  rmwMem incF (.absx w) s

/-- `DEC $nn`, opcode `C6`: R226, mode R123. -/
def execDecZp (l : Byte) (s : State) : Result :=
  rmwMem decF (.zp l) s

/-- `DEC $nn,X`, opcode `D6`: R226, mode R124. -/
def execDecZpx (l : Byte) (s : State) : Result :=
  rmwMem decF (.zpx l) s

/-- `DEC $nnnn`, opcode `CE`: R226, mode R126. -/
def execDecAbs (w : Word) (s : State) : Result :=
  rmwMem decF (.abs w) s

/-- `DEC $nnnn,X`, opcode `DE`: R226, mode R127. -/
def execDecAbsx (w : Word) (s : State) : Result :=
  rmwMem decF (.absx w) s

/-- `INX`, opcode `E8`: R227, mode R120. -/
def execInx (s : State) : Result :=
  implied (fun t => loadX (t.x + 1#8) t) s

/-- `INY`, opcode `C8`: R228, mode R120. -/
def execIny (s : State) : Result :=
  implied (fun t => loadY (t.y + 1#8) t) s

/-- `DEX`, opcode `CA`: R229, mode R120. -/
def execDex (s : State) : Result :=
  implied (fun t => loadX (t.x - 1#8) t) s

/-- `DEY`, opcode `88`: R230, mode R120. -/
def execDey (s : State) : Result :=
  implied (fun t => loadY (t.y - 1#8) t) s

/-- `CLC`, opcode `18`: R231, mode R120. -/
def execClc (s : State) : Result :=
  implied (fun t => t.setC false) s

/-- `SEC`, opcode `38`: R232, mode R120. -/
def execSec (s : State) : Result :=
  implied (fun t => t.setC true) s

/-- `CLI`, opcode `58`: R233, mode R120. -/
def execCli (s : State) : Result :=
  implied (fun t => t.setI false) s

/-- `SEI`, opcode `78`: R234, mode R120. -/
def execSei (s : State) : Result :=
  implied (fun t => t.setI true) s

/-- `CLD`, opcode `D8`: R235, mode R120. -/
def execCld (s : State) : Result :=
  implied (fun t => t.setD false) s

/-- `SED`, opcode `F8`: R236, mode R120. -/
def execSed (s : State) : Result :=
  implied (fun t => t.setD true) s

/-- `CLV`, opcode `B8`: R237, mode R120. -/
def execClv (s : State) : Result :=
  implied (fun t => t.setV false) s

/-- `NOP`, opcode `EA`: R238, mode R120. -/
def execNop (s : State) : Result :=
  implied (fun t => t) s

end Sys2Proof.Machine
end

