-- ==== Sys2Proof/Machine/Shift.lean ====
section
/-! DEFINITION. Shifts and rotates, `42_shift_rotate.md`: one meaning per
instruction, over the shared operations. A meaning starts after the instruction's bytes are fetched, so
`s.pc` is the address after its last operand byte (`10_state.md` R28). -/

namespace Sys2Proof.Machine

/-- `ASL A`, opcode `0A`: R151, mode R121. -/
def execAslAcc (s : State) : Result :=
  accumulator aslF s

/-- `ASL $nn`, opcode `06`: R151, mode R123. -/
def execAslZp (l : Byte) (s : State) : Result :=
  rmwMem aslF (.zp l) s

/-- `ASL $nn,X`, opcode `16`: R151, mode R124. -/
def execAslZpx (l : Byte) (s : State) : Result :=
  rmwMem aslF (.zpx l) s

/-- `ASL $nnnn`, opcode `0E`: R151, mode R126. -/
def execAslAbs (w : Word) (s : State) : Result :=
  rmwMem aslF (.abs w) s

/-- `ASL $nnnn,X`, opcode `1E`: R151, mode R127. -/
def execAslAbsx (w : Word) (s : State) : Result :=
  rmwMem aslF (.absx w) s

/-- `LSR A`, opcode `4A`: R152, mode R121. -/
def execLsrAcc (s : State) : Result :=
  accumulator lsrF s

/-- `LSR $nn`, opcode `46`: R152, mode R123. -/
def execLsrZp (l : Byte) (s : State) : Result :=
  rmwMem lsrF (.zp l) s

/-- `LSR $nn,X`, opcode `56`: R152, mode R124. -/
def execLsrZpx (l : Byte) (s : State) : Result :=
  rmwMem lsrF (.zpx l) s

/-- `LSR $nnnn`, opcode `4E`: R152, mode R126. -/
def execLsrAbs (w : Word) (s : State) : Result :=
  rmwMem lsrF (.abs w) s

/-- `LSR $nnnn,X`, opcode `5E`: R152, mode R127. -/
def execLsrAbsx (w : Word) (s : State) : Result :=
  rmwMem lsrF (.absx w) s

/-- `ROL A`, opcode `2A`: R153, mode R121. -/
def execRolAcc (s : State) : Result :=
  accumulator rolF s

/-- `ROL $nn`, opcode `26`: R153, mode R123. -/
def execRolZp (l : Byte) (s : State) : Result :=
  rmwMem rolF (.zp l) s

/-- `ROL $nn,X`, opcode `36`: R153, mode R124. -/
def execRolZpx (l : Byte) (s : State) : Result :=
  rmwMem rolF (.zpx l) s

/-- `ROL $nnnn`, opcode `2E`: R153, mode R126. -/
def execRolAbs (w : Word) (s : State) : Result :=
  rmwMem rolF (.abs w) s

/-- `ROL $nnnn,X`, opcode `3E`: R153, mode R127. -/
def execRolAbsx (w : Word) (s : State) : Result :=
  rmwMem rolF (.absx w) s

/-- `ROR A`, opcode `6A`: R154, mode R121. -/
def execRorAcc (s : State) : Result :=
  accumulator rorF s

/-- `ROR $nn`, opcode `66`: R154, mode R123. -/
def execRorZp (l : Byte) (s : State) : Result :=
  rmwMem rorF (.zp l) s

/-- `ROR $nn,X`, opcode `76`: R154, mode R124. -/
def execRorZpx (l : Byte) (s : State) : Result :=
  rmwMem rorF (.zpx l) s

/-- `ROR $nnnn`, opcode `6E`: R154, mode R126. -/
def execRorAbs (w : Word) (s : State) : Result :=
  rmwMem rorF (.abs w) s

/-- `ROR $nnnn,X`, opcode `7E`: R154, mode R127. -/
def execRorAbsx (w : Word) (s : State) : Result :=
  rmwMem rorF (.absx w) s

end Sys2Proof.Machine
end

