-- ==== Sys2Proof/Machine/Stack.lean ====
section
/-! DEFINITION. Stack, subroutine and interrupt, `44_stack_subroutine_interrupt.md`: one meaning per
instruction, over the shared operations. A meaning starts after the instruction's bytes are fetched, so
`s.pc` is the address after its last operand byte (`10_state.md` R28). -/

namespace Sys2Proof.Machine

/-- `PHA`, opcode `48`: R181, mode R120. -/
def execPha (s : State) : Result :=
  .next ((s.busRead s.pc).push s.a)

/-- `PHP`, opcode `08`: R182, mode R120. -/
def execPhp (s : State) : Result :=
  .next ((s.busRead s.pc).push (s.pByte true))

/-- `PLA`, opcode `68`: R183, mode R120. -/
def execPla (s : State) : Result :=
  let ready := (s.busRead s.pc).busRead (stackAddr s.sp)
  .next (loadA ready.pulled ready.pull)

/-- `PLP`, opcode `28`: R184, mode R120. -/
def execPlp (s : State) : Result :=
  let ready := (s.busRead s.pc).busRead (stackAddr s.sp)
  .next (ready.pull.setP ready.pulled)

/-- `JSR $nnnn`, opcode `20`: R185, mode R126. `PC` is here the address after the third byte; the address of the third byte is pushed. -/
def execJsr (target : Word) (s : State) : Result :=
  let ret := s.pc - 1#16
  .next ((((s.busRead (stackAddr s.sp)).push (hi ret)).push (lo ret)).setPc target)

/-- `RTS`, opcode `60`: R186, mode R120. The pulled address is read before it is incremented. -/
def execRts (s : State) : Result :=
  let ready := (s.busRead s.pc).busRead (stackAddr s.sp)
  let withLo := ready.pull
  let ret := mkWord withLo.pulled ready.pulled
  .next ((withLo.pull.busRead ret).setPc (ret + 1#16))

/-- `BRK`, opcode `00`: R187, mode R120. On entry `PC` is the opcode address plus 1 (`10_state.md` R28): the pad byte is read and discarded, the
shared entry runs with `B = 1`, then the latch takes the address of the opcode (`60_exceptions.md` R254). -/
def execBrk (s : State) : Result :=
  .next (((s.busRead s.pc).enterInterrupt (s.pc + 1#16) true irqVector).setHalt
    (some (.brk (s.pc - 1#16))))

/-- `RTI`, opcode `40`: R188, mode R120. -/
def execRti (s : State) : Result :=
  .next ((s.busRead s.pc).busRead (stackAddr s.sp)).returnFromInterrupt

end Sys2Proof.Machine
end

