-- ==== Sys2Proof/Machine/Dispatch.lean ====
section
/-! DEFINITION. One arm per constructor of `Instr`, each one direct call of that instruction's meaning. -/

namespace Sys2Proof.Machine

/-- The effect of an instruction whose bytes have been fetched (`30_encoding.md` R96). -/
def exec (i : Instr) (s : State) : Host.Outcome State Fault Refusal :=
  match i with
  -- Arithmetic and compare, 41_arithmetic_compare.md
  | .adcIm m => Sys2Proof.Machine.execAdcIm m s
  | .adcZp l => Sys2Proof.Machine.execAdcZp l s
  | .adcZpx l => Sys2Proof.Machine.execAdcZpx l s
  | .adcAbs w => Sys2Proof.Machine.execAdcAbs w s
  | .adcAbsx w => Sys2Proof.Machine.execAdcAbsx w s
  | .adcAbsy w => Sys2Proof.Machine.execAdcAbsy w s
  | .adcIndx l => Sys2Proof.Machine.execAdcIndx l s
  | .adcIndy l => Sys2Proof.Machine.execAdcIndy l s
  | .sbcIm m => Sys2Proof.Machine.execSbcIm m s
  | .sbcZp l => Sys2Proof.Machine.execSbcZp l s
  | .sbcZpx l => Sys2Proof.Machine.execSbcZpx l s
  | .sbcAbs w => Sys2Proof.Machine.execSbcAbs w s
  | .sbcAbsx w => Sys2Proof.Machine.execSbcAbsx w s
  | .sbcAbsy w => Sys2Proof.Machine.execSbcAbsy w s
  | .sbcIndx l => Sys2Proof.Machine.execSbcIndx l s
  | .sbcIndy l => Sys2Proof.Machine.execSbcIndy l s
  | .cmpIm m => Sys2Proof.Machine.execCmpIm m s
  | .cmpZp l => Sys2Proof.Machine.execCmpZp l s
  | .cmpZpx l => Sys2Proof.Machine.execCmpZpx l s
  | .cmpAbs w => Sys2Proof.Machine.execCmpAbs w s
  | .cmpAbsx w => Sys2Proof.Machine.execCmpAbsx w s
  | .cmpAbsy w => Sys2Proof.Machine.execCmpAbsy w s
  | .cmpIndx l => Sys2Proof.Machine.execCmpIndx l s
  | .cmpIndy l => Sys2Proof.Machine.execCmpIndy l s
  | .cpxIm m => Sys2Proof.Machine.execCpxIm m s
  | .cpxZp l => Sys2Proof.Machine.execCpxZp l s
  | .cpxAbs w => Sys2Proof.Machine.execCpxAbs w s
  | .cpyIm m => Sys2Proof.Machine.execCpyIm m s
  | .cpyZp l => Sys2Proof.Machine.execCpyZp l s
  | .cpyAbs w => Sys2Proof.Machine.execCpyAbs w s
  -- Shifts and rotates, 42_shift_rotate.md
  | .aslAcc => Sys2Proof.Machine.execAslAcc s
  | .aslZp l => Sys2Proof.Machine.execAslZp l s
  | .aslZpx l => Sys2Proof.Machine.execAslZpx l s
  | .aslAbs w => Sys2Proof.Machine.execAslAbs w s
  | .aslAbsx w => Sys2Proof.Machine.execAslAbsx w s
  | .lsrAcc => Sys2Proof.Machine.execLsrAcc s
  | .lsrZp l => Sys2Proof.Machine.execLsrZp l s
  | .lsrZpx l => Sys2Proof.Machine.execLsrZpx l s
  | .lsrAbs w => Sys2Proof.Machine.execLsrAbs w s
  | .lsrAbsx w => Sys2Proof.Machine.execLsrAbsx w s
  | .rolAcc => Sys2Proof.Machine.execRolAcc s
  | .rolZp l => Sys2Proof.Machine.execRolZp l s
  | .rolZpx l => Sys2Proof.Machine.execRolZpx l s
  | .rolAbs w => Sys2Proof.Machine.execRolAbs w s
  | .rolAbsx w => Sys2Proof.Machine.execRolAbsx w s
  | .rorAcc => Sys2Proof.Machine.execRorAcc s
  | .rorZp l => Sys2Proof.Machine.execRorZp l s
  | .rorZpx l => Sys2Proof.Machine.execRorZpx l s
  | .rorAbs w => Sys2Proof.Machine.execRorAbs w s
  | .rorAbsx w => Sys2Proof.Machine.execRorAbsx w s
  -- Branches and jumps, 43_branches_jumps.md
  | .bpl off => Sys2Proof.Machine.execBpl off s
  | .bmi off => Sys2Proof.Machine.execBmi off s
  | .bvc off => Sys2Proof.Machine.execBvc off s
  | .bvs off => Sys2Proof.Machine.execBvs off s
  | .bcc off => Sys2Proof.Machine.execBcc off s
  | .bcs off => Sys2Proof.Machine.execBcs off s
  | .bne off => Sys2Proof.Machine.execBne off s
  | .beq off => Sys2Proof.Machine.execBeq off s
  | .jmpAbs target => Sys2Proof.Machine.execJmpAbs target s
  | .jmpAbsInd ptr => Sys2Proof.Machine.execJmpAbsInd ptr s
  -- Stack, subroutine and interrupt, 44_stack_subroutine_interrupt.md
  | .pha => Sys2Proof.Machine.execPha s
  | .php => Sys2Proof.Machine.execPhp s
  | .pla => Sys2Proof.Machine.execPla s
  | .plp => Sys2Proof.Machine.execPlp s
  | .jsr target => Sys2Proof.Machine.execJsr target s
  | .rts => Sys2Proof.Machine.execRts s
  | .brk => Sys2Proof.Machine.execBrk s
  | .rti => Sys2Proof.Machine.execRti s
  -- Loads, stores and transfers, 45_load_store_transfer.md
  | .ldaIm m => Sys2Proof.Machine.execLdaIm m s
  | .ldaZp l => Sys2Proof.Machine.execLdaZp l s
  | .ldaZpx l => Sys2Proof.Machine.execLdaZpx l s
  | .ldaAbs w => Sys2Proof.Machine.execLdaAbs w s
  | .ldaAbsx w => Sys2Proof.Machine.execLdaAbsx w s
  | .ldaAbsy w => Sys2Proof.Machine.execLdaAbsy w s
  | .ldaIndx l => Sys2Proof.Machine.execLdaIndx l s
  | .ldaIndy l => Sys2Proof.Machine.execLdaIndy l s
  | .ldxIm m => Sys2Proof.Machine.execLdxIm m s
  | .ldxZp l => Sys2Proof.Machine.execLdxZp l s
  | .ldxZpy l => Sys2Proof.Machine.execLdxZpy l s
  | .ldxAbs w => Sys2Proof.Machine.execLdxAbs w s
  | .ldxAbsy w => Sys2Proof.Machine.execLdxAbsy w s
  | .ldyIm m => Sys2Proof.Machine.execLdyIm m s
  | .ldyZp l => Sys2Proof.Machine.execLdyZp l s
  | .ldyZpx l => Sys2Proof.Machine.execLdyZpx l s
  | .ldyAbs w => Sys2Proof.Machine.execLdyAbs w s
  | .ldyAbsx w => Sys2Proof.Machine.execLdyAbsx w s
  | .staZp l => Sys2Proof.Machine.execStaZp l s
  | .staZpx l => Sys2Proof.Machine.execStaZpx l s
  | .staAbs w => Sys2Proof.Machine.execStaAbs w s
  | .staAbsx w => Sys2Proof.Machine.execStaAbsx w s
  | .staAbsy w => Sys2Proof.Machine.execStaAbsy w s
  | .staIndx l => Sys2Proof.Machine.execStaIndx l s
  | .staIndy l => Sys2Proof.Machine.execStaIndy l s
  | .stxZp l => Sys2Proof.Machine.execStxZp l s
  | .stxZpy l => Sys2Proof.Machine.execStxZpy l s
  | .stxAbs w => Sys2Proof.Machine.execStxAbs w s
  | .styZp l => Sys2Proof.Machine.execStyZp l s
  | .styZpx l => Sys2Proof.Machine.execStyZpx l s
  | .styAbs w => Sys2Proof.Machine.execStyAbs w s
  | .tax => Sys2Proof.Machine.execTax s
  | .tay => Sys2Proof.Machine.execTay s
  | .txa => Sys2Proof.Machine.execTxa s
  | .tya => Sys2Proof.Machine.execTya s
  | .tsx => Sys2Proof.Machine.execTsx s
  | .txs => Sys2Proof.Machine.execTxs s
  -- Logic, increments, flags and no-operation, 46_logic_incdec_flags_nop.md
  | .andIm m => Sys2Proof.Machine.execAndIm m s
  | .andZp l => Sys2Proof.Machine.execAndZp l s
  | .andZpx l => Sys2Proof.Machine.execAndZpx l s
  | .andAbs w => Sys2Proof.Machine.execAndAbs w s
  | .andAbsx w => Sys2Proof.Machine.execAndAbsx w s
  | .andAbsy w => Sys2Proof.Machine.execAndAbsy w s
  | .andIndx l => Sys2Proof.Machine.execAndIndx l s
  | .andIndy l => Sys2Proof.Machine.execAndIndy l s
  | .oraIm m => Sys2Proof.Machine.execOraIm m s
  | .oraZp l => Sys2Proof.Machine.execOraZp l s
  | .oraZpx l => Sys2Proof.Machine.execOraZpx l s
  | .oraAbs w => Sys2Proof.Machine.execOraAbs w s
  | .oraAbsx w => Sys2Proof.Machine.execOraAbsx w s
  | .oraAbsy w => Sys2Proof.Machine.execOraAbsy w s
  | .oraIndx l => Sys2Proof.Machine.execOraIndx l s
  | .oraIndy l => Sys2Proof.Machine.execOraIndy l s
  | .eorIm m => Sys2Proof.Machine.execEorIm m s
  | .eorZp l => Sys2Proof.Machine.execEorZp l s
  | .eorZpx l => Sys2Proof.Machine.execEorZpx l s
  | .eorAbs w => Sys2Proof.Machine.execEorAbs w s
  | .eorAbsx w => Sys2Proof.Machine.execEorAbsx w s
  | .eorAbsy w => Sys2Proof.Machine.execEorAbsy w s
  | .eorIndx l => Sys2Proof.Machine.execEorIndx l s
  | .eorIndy l => Sys2Proof.Machine.execEorIndy l s
  | .bitZp l => Sys2Proof.Machine.execBitZp l s
  | .bitAbs w => Sys2Proof.Machine.execBitAbs w s
  | .incZp l => Sys2Proof.Machine.execIncZp l s
  | .incZpx l => Sys2Proof.Machine.execIncZpx l s
  | .incAbs w => Sys2Proof.Machine.execIncAbs w s
  | .incAbsx w => Sys2Proof.Machine.execIncAbsx w s
  | .decZp l => Sys2Proof.Machine.execDecZp l s
  | .decZpx l => Sys2Proof.Machine.execDecZpx l s
  | .decAbs w => Sys2Proof.Machine.execDecAbs w s
  | .decAbsx w => Sys2Proof.Machine.execDecAbsx w s
  | .inx => Sys2Proof.Machine.execInx s
  | .iny => Sys2Proof.Machine.execIny s
  | .dex => Sys2Proof.Machine.execDex s
  | .dey => Sys2Proof.Machine.execDey s
  | .clc => Sys2Proof.Machine.execClc s
  | .sec => Sys2Proof.Machine.execSec s
  | .cli => Sys2Proof.Machine.execCli s
  | .sei => Sys2Proof.Machine.execSei s
  | .cld => Sys2Proof.Machine.execCld s
  | .sed => Sys2Proof.Machine.execSed s
  | .clv => Sys2Proof.Machine.execClv s
  | .nop => Sys2Proof.Machine.execNop s

end Sys2Proof.Machine
end

