-- ==== Sys2Proof/WellFormed.lean ====
section
/-! DEFINITION. The checks on what a program or a build may name: a mnemonic and a mode must be a pair of
`40_addressing_modes.md` R136, and `UNDOC_NOP_SET` may name only bytes of `30_encoding.md` R99, each once.
No operand value is checked: "every value of `l` and `h` is legal in every mode" (R101). -/

namespace Sys2Proof

/-- The modes each mnemonic has: the rows of the table of R136. -/
def Mnemonic.modes : Mnemonic → List Mode
  | .adc => [.im, .zp, .zpx, .abs, .absx, .absy, .indx, .indy]
  | .sbc => [.im, .zp, .zpx, .abs, .absx, .absy, .indx, .indy]
  | .cmp => [.im, .zp, .zpx, .abs, .absx, .absy, .indx, .indy]
  | .cpx => [.im, .zp, .abs]
  | .cpy => [.im, .zp, .abs]
  | .asl => [.acc, .zp, .zpx, .abs, .absx]
  | .lsr => [.acc, .zp, .zpx, .abs, .absx]
  | .rol => [.acc, .zp, .zpx, .abs, .absx]
  | .ror => [.acc, .zp, .zpx, .abs, .absx]
  | .bpl => [.rel]
  | .bmi => [.rel]
  | .bvc => [.rel]
  | .bvs => [.rel]
  | .bcc => [.rel]
  | .bcs => [.rel]
  | .bne => [.rel]
  | .beq => [.rel]
  | .jmp => [.abs, .absInd]
  | .pha => [.imp]
  | .php => [.imp]
  | .pla => [.imp]
  | .plp => [.imp]
  | .jsr => [.abs]
  | .rts => [.imp]
  | .brk => [.imp]
  | .rti => [.imp]
  | .lda => [.im, .zp, .zpx, .abs, .absx, .absy, .indx, .indy]
  | .ldx => [.im, .zp, .zpy, .abs, .absy]
  | .ldy => [.im, .zp, .zpx, .abs, .absx]
  | .sta => [.zp, .zpx, .abs, .absx, .absy, .indx, .indy]
  | .stx => [.zp, .zpy, .abs]
  | .sty => [.zp, .zpx, .abs]
  | .tax => [.imp]
  | .tay => [.imp]
  | .txa => [.imp]
  | .tya => [.imp]
  | .tsx => [.imp]
  | .txs => [.imp]
  | .and => [.im, .zp, .zpx, .abs, .absx, .absy, .indx, .indy]
  | .ora => [.im, .zp, .zpx, .abs, .absx, .absy, .indx, .indy]
  | .eor => [.im, .zp, .zpx, .abs, .absx, .absy, .indx, .indy]
  | .bit => [.zp, .abs]
  | .inc => [.zp, .zpx, .abs, .absx]
  | .dec => [.zp, .zpx, .abs, .absx]
  | .inx => [.imp]
  | .iny => [.imp]
  | .dex => [.imp]
  | .dey => [.imp]
  | .clc => [.imp]
  | .sec => [.imp]
  | .cli => [.imp]
  | .sei => [.imp]
  | .cld => [.imp]
  | .sed => [.imp]
  | .clv => [.imp]
  | .nop => [.imp]

/-- "A pair not in this table does not exist" (R136). -/
abbrev validPair (m : Mnemonic) (md : Mode) : Prop := md ∈ m.modes

/-- An instruction is well-formed when its mnemonic and mode are a pair of R136. -/
abbrev Instr.WellFormed (i : Instr) : Prop := validPair i.mnemonic i.mode

/-- The 105 illegal opcode bytes of R99, row by row as the spec lists them. -/
def illegalOpcodes : List Byte :=
  [0x02#8, 0x03#8, 0x04#8, 0x07#8, 0x0B#8, 0x0C#8, 0x0F#8, 0x12#8, 0x13#8, 0x14#8, 0x17#8, 0x1A#8, 0x1B#8, 0x1C#8, 0x1F#8]
    ++ [0x22#8, 0x23#8, 0x27#8, 0x2B#8, 0x2F#8, 0x32#8, 0x33#8, 0x34#8, 0x37#8, 0x3A#8, 0x3B#8, 0x3C#8, 0x3F#8, 0x42#8, 0x43#8]
    ++ [0x44#8, 0x47#8, 0x4B#8, 0x4F#8, 0x52#8, 0x53#8, 0x54#8, 0x57#8, 0x5A#8, 0x5B#8, 0x5C#8, 0x5F#8, 0x62#8, 0x63#8, 0x64#8]
    ++ [0x67#8, 0x6B#8, 0x6F#8, 0x72#8, 0x73#8, 0x74#8, 0x77#8, 0x7A#8, 0x7B#8, 0x7C#8, 0x7F#8, 0x80#8, 0x82#8, 0x83#8, 0x87#8]
    ++ [0x89#8, 0x8B#8, 0x8F#8, 0x92#8, 0x93#8, 0x97#8, 0x9B#8, 0x9C#8, 0x9E#8, 0x9F#8, 0xA3#8, 0xA7#8, 0xAB#8, 0xAF#8, 0xB2#8]
    ++ [0xB3#8, 0xB7#8, 0xBB#8, 0xBF#8, 0xC2#8, 0xC3#8, 0xC7#8, 0xCB#8, 0xCF#8, 0xD2#8, 0xD3#8, 0xD4#8, 0xD7#8, 0xDA#8, 0xDB#8]
    ++ [0xDC#8, 0xDF#8, 0xE2#8, 0xE3#8, 0xE7#8, 0xEB#8, 0xEF#8, 0xF2#8, 0xF3#8, 0xF4#8, 0xF7#8, 0xFA#8, 0xFB#8, 0xFC#8, 0xFF#8]

/-- A build's `UNDOC_NOP_SET` may name only undocumented bytes, each with one mode (R100). -/
abbrev Config.wf (c : Config) : Prop :=
  (∀ p ∈ c.undocNops, p.1 ∈ illegalOpcodes) ∧ (c.undocNops.map Prod.fst).Nodup

end Sys2Proof
end

