-- ==== Sys2Proof/Decode.lean ====
section
/-! DEFINITION. Decoding, total on any bytes, from the opcode table of `30_encoding.md` R98; and the
encoder, whose opcode bytes are the cells of the table of `40_addressing_modes.md` R136. -/

namespace Sys2Proof

open Sys2Proof.Machine (mkWord hi lo)

/-- Why bytes are no instruction. -/
inductive DecodeError
  /-- There is no byte to decode. -/
  | noBytes
  /-- The first byte is not in the table of R98 (R99). -/
  | illegalOpcode (b : Byte)
  /-- The opcode byte asks for more operand bytes than there are (R92). -/
  | truncated (b : Byte)
deriving DecidableEq, Repr

/-- A row of R98 by its format (R90): the instruction as a function of its operand bytes. -/
inductive Template
  | f1 (i : Instr)
  | f2 (f : Byte → Instr)
  | f3 (f : Word → Instr)

/-- The opcode table R98, sorted by opcode byte; `none` for the bytes of R99. "The whole byte selects the
pair (mnemonic, address mode)" (R91). -/
def template : Byte → Option Template
  | 0x00#8 => some (.f1 .brk)
  | 0x01#8 => some (.f2 .oraIndx)
  | 0x05#8 => some (.f2 .oraZp)
  | 0x06#8 => some (.f2 .aslZp)
  | 0x08#8 => some (.f1 .php)
  | 0x09#8 => some (.f2 .oraIm)
  | 0x0A#8 => some (.f1 .aslAcc)
  | 0x0D#8 => some (.f3 .oraAbs)
  | 0x0E#8 => some (.f3 .aslAbs)
  | 0x10#8 => some (.f2 .bpl)
  | 0x11#8 => some (.f2 .oraIndy)
  | 0x15#8 => some (.f2 .oraZpx)
  | 0x16#8 => some (.f2 .aslZpx)
  | 0x18#8 => some (.f1 .clc)
  | 0x19#8 => some (.f3 .oraAbsy)
  | 0x1D#8 => some (.f3 .oraAbsx)
  | 0x1E#8 => some (.f3 .aslAbsx)
  | 0x20#8 => some (.f3 .jsr)
  | 0x21#8 => some (.f2 .andIndx)
  | 0x24#8 => some (.f2 .bitZp)
  | 0x25#8 => some (.f2 .andZp)
  | 0x26#8 => some (.f2 .rolZp)
  | 0x28#8 => some (.f1 .plp)
  | 0x29#8 => some (.f2 .andIm)
  | 0x2A#8 => some (.f1 .rolAcc)
  | 0x2C#8 => some (.f3 .bitAbs)
  | 0x2D#8 => some (.f3 .andAbs)
  | 0x2E#8 => some (.f3 .rolAbs)
  | 0x30#8 => some (.f2 .bmi)
  | 0x31#8 => some (.f2 .andIndy)
  | 0x35#8 => some (.f2 .andZpx)
  | 0x36#8 => some (.f2 .rolZpx)
  | 0x38#8 => some (.f1 .sec)
  | 0x39#8 => some (.f3 .andAbsy)
  | 0x3D#8 => some (.f3 .andAbsx)
  | 0x3E#8 => some (.f3 .rolAbsx)
  | 0x40#8 => some (.f1 .rti)
  | 0x41#8 => some (.f2 .eorIndx)
  | 0x45#8 => some (.f2 .eorZp)
  | 0x46#8 => some (.f2 .lsrZp)
  | 0x48#8 => some (.f1 .pha)
  | 0x49#8 => some (.f2 .eorIm)
  | 0x4A#8 => some (.f1 .lsrAcc)
  | 0x4C#8 => some (.f3 .jmpAbs)
  | 0x4D#8 => some (.f3 .eorAbs)
  | 0x4E#8 => some (.f3 .lsrAbs)
  | 0x50#8 => some (.f2 .bvc)
  | 0x51#8 => some (.f2 .eorIndy)
  | 0x55#8 => some (.f2 .eorZpx)
  | 0x56#8 => some (.f2 .lsrZpx)
  | 0x58#8 => some (.f1 .cli)
  | 0x59#8 => some (.f3 .eorAbsy)
  | 0x5D#8 => some (.f3 .eorAbsx)
  | 0x5E#8 => some (.f3 .lsrAbsx)
  | 0x60#8 => some (.f1 .rts)
  | 0x61#8 => some (.f2 .adcIndx)
  | 0x65#8 => some (.f2 .adcZp)
  | 0x66#8 => some (.f2 .rorZp)
  | 0x68#8 => some (.f1 .pla)
  | 0x69#8 => some (.f2 .adcIm)
  | 0x6A#8 => some (.f1 .rorAcc)
  | 0x6C#8 => some (.f3 .jmpAbsInd)
  | 0x6D#8 => some (.f3 .adcAbs)
  | 0x6E#8 => some (.f3 .rorAbs)
  | 0x70#8 => some (.f2 .bvs)
  | 0x71#8 => some (.f2 .adcIndy)
  | 0x75#8 => some (.f2 .adcZpx)
  | 0x76#8 => some (.f2 .rorZpx)
  | 0x78#8 => some (.f1 .sei)
  | 0x79#8 => some (.f3 .adcAbsy)
  | 0x7D#8 => some (.f3 .adcAbsx)
  | 0x7E#8 => some (.f3 .rorAbsx)
  | 0x81#8 => some (.f2 .staIndx)
  | 0x84#8 => some (.f2 .styZp)
  | 0x85#8 => some (.f2 .staZp)
  | 0x86#8 => some (.f2 .stxZp)
  | 0x88#8 => some (.f1 .dey)
  | 0x8A#8 => some (.f1 .txa)
  | 0x8C#8 => some (.f3 .styAbs)
  | 0x8D#8 => some (.f3 .staAbs)
  | 0x8E#8 => some (.f3 .stxAbs)
  | 0x90#8 => some (.f2 .bcc)
  | 0x91#8 => some (.f2 .staIndy)
  | 0x94#8 => some (.f2 .styZpx)
  | 0x95#8 => some (.f2 .staZpx)
  | 0x96#8 => some (.f2 .stxZpy)
  | 0x98#8 => some (.f1 .tya)
  | 0x99#8 => some (.f3 .staAbsy)
  | 0x9A#8 => some (.f1 .txs)
  | 0x9D#8 => some (.f3 .staAbsx)
  | 0xA0#8 => some (.f2 .ldyIm)
  | 0xA1#8 => some (.f2 .ldaIndx)
  | 0xA2#8 => some (.f2 .ldxIm)
  | 0xA4#8 => some (.f2 .ldyZp)
  | 0xA5#8 => some (.f2 .ldaZp)
  | 0xA6#8 => some (.f2 .ldxZp)
  | 0xA8#8 => some (.f1 .tay)
  | 0xA9#8 => some (.f2 .ldaIm)
  | 0xAA#8 => some (.f1 .tax)
  | 0xAC#8 => some (.f3 .ldyAbs)
  | 0xAD#8 => some (.f3 .ldaAbs)
  | 0xAE#8 => some (.f3 .ldxAbs)
  | 0xB0#8 => some (.f2 .bcs)
  | 0xB1#8 => some (.f2 .ldaIndy)
  | 0xB4#8 => some (.f2 .ldyZpx)
  | 0xB5#8 => some (.f2 .ldaZpx)
  | 0xB6#8 => some (.f2 .ldxZpy)
  | 0xB8#8 => some (.f1 .clv)
  | 0xB9#8 => some (.f3 .ldaAbsy)
  | 0xBA#8 => some (.f1 .tsx)
  | 0xBC#8 => some (.f3 .ldyAbsx)
  | 0xBD#8 => some (.f3 .ldaAbsx)
  | 0xBE#8 => some (.f3 .ldxAbsy)
  | 0xC0#8 => some (.f2 .cpyIm)
  | 0xC1#8 => some (.f2 .cmpIndx)
  | 0xC4#8 => some (.f2 .cpyZp)
  | 0xC5#8 => some (.f2 .cmpZp)
  | 0xC6#8 => some (.f2 .decZp)
  | 0xC8#8 => some (.f1 .iny)
  | 0xC9#8 => some (.f2 .cmpIm)
  | 0xCA#8 => some (.f1 .dex)
  | 0xCC#8 => some (.f3 .cpyAbs)
  | 0xCD#8 => some (.f3 .cmpAbs)
  | 0xCE#8 => some (.f3 .decAbs)
  | 0xD0#8 => some (.f2 .bne)
  | 0xD1#8 => some (.f2 .cmpIndy)
  | 0xD5#8 => some (.f2 .cmpZpx)
  | 0xD6#8 => some (.f2 .decZpx)
  | 0xD8#8 => some (.f1 .cld)
  | 0xD9#8 => some (.f3 .cmpAbsy)
  | 0xDD#8 => some (.f3 .cmpAbsx)
  | 0xDE#8 => some (.f3 .decAbsx)
  | 0xE0#8 => some (.f2 .cpxIm)
  | 0xE1#8 => some (.f2 .sbcIndx)
  | 0xE4#8 => some (.f2 .cpxZp)
  | 0xE5#8 => some (.f2 .sbcZp)
  | 0xE6#8 => some (.f2 .incZp)
  | 0xE8#8 => some (.f1 .inx)
  | 0xE9#8 => some (.f2 .sbcIm)
  | 0xEA#8 => some (.f1 .nop)
  | 0xEC#8 => some (.f3 .cpxAbs)
  | 0xED#8 => some (.f3 .sbcAbs)
  | 0xEE#8 => some (.f3 .incAbs)
  | 0xF0#8 => some (.f2 .beq)
  | 0xF1#8 => some (.f2 .sbcIndy)
  | 0xF5#8 => some (.f2 .sbcZpx)
  | 0xF6#8 => some (.f2 .incZpx)
  | 0xF8#8 => some (.f1 .sed)
  | 0xF9#8 => some (.f3 .sbcAbsy)
  | 0xFD#8 => some (.f3 .sbcAbsx)
  | 0xFE#8 => some (.f3 .incAbsx)
  | _ => none

/-- Decodes one instruction from the front of a byte list and answers it with the rest (R94). "A decoder
reads byte 0, looks it up, and then knows how many more bytes to fetch" (R92); a two-byte operand has its
low byte first (R57). -/
def decode : List Byte → Except DecodeError (Instr × List Byte)
  | [] => .error .noBytes
  | b :: rest =>
    match template b, rest with
    | none, _ => .error (.illegalOpcode b)
    | some (.f1 i), rest => .ok (i, rest)
    | some (.f2 f), l :: rest => .ok (f l, rest)
    | some (.f3 f), l :: h :: rest => .ok (f (mkWord h l), rest)
    | some (.f2 _), [] => .error (.truncated b)
    | some (.f3 _), _ => .error (.truncated b)

/-- Instruction length in bytes by mode, R92. -/
def Mode.length : Mode → Nat
  | .imp | .acc => 1
  | .im | .zp | .zpx | .zpy | .indx | .indy | .rel => 2
  | .abs | .absx | .absy | .absInd => 3

/-- Instruction length in bytes, R92. -/
def Instr.length (i : Instr) : Nat := i.mode.length

/-- The opcode byte of an instruction: its cell in the table of R136. -/
def Instr.opcode : Instr → Byte
  | .adcIm _ => 0x69#8
  | .adcZp _ => 0x65#8
  | .adcZpx _ => 0x75#8
  | .adcAbs _ => 0x6D#8
  | .adcAbsx _ => 0x7D#8
  | .adcAbsy _ => 0x79#8
  | .adcIndx _ => 0x61#8
  | .adcIndy _ => 0x71#8
  | .sbcIm _ => 0xE9#8
  | .sbcZp _ => 0xE5#8
  | .sbcZpx _ => 0xF5#8
  | .sbcAbs _ => 0xED#8
  | .sbcAbsx _ => 0xFD#8
  | .sbcAbsy _ => 0xF9#8
  | .sbcIndx _ => 0xE1#8
  | .sbcIndy _ => 0xF1#8
  | .cmpIm _ => 0xC9#8
  | .cmpZp _ => 0xC5#8
  | .cmpZpx _ => 0xD5#8
  | .cmpAbs _ => 0xCD#8
  | .cmpAbsx _ => 0xDD#8
  | .cmpAbsy _ => 0xD9#8
  | .cmpIndx _ => 0xC1#8
  | .cmpIndy _ => 0xD1#8
  | .cpxIm _ => 0xE0#8
  | .cpxZp _ => 0xE4#8
  | .cpxAbs _ => 0xEC#8
  | .cpyIm _ => 0xC0#8
  | .cpyZp _ => 0xC4#8
  | .cpyAbs _ => 0xCC#8
  | .aslAcc => 0x0A#8
  | .aslZp _ => 0x06#8
  | .aslZpx _ => 0x16#8
  | .aslAbs _ => 0x0E#8
  | .aslAbsx _ => 0x1E#8
  | .lsrAcc => 0x4A#8
  | .lsrZp _ => 0x46#8
  | .lsrZpx _ => 0x56#8
  | .lsrAbs _ => 0x4E#8
  | .lsrAbsx _ => 0x5E#8
  | .rolAcc => 0x2A#8
  | .rolZp _ => 0x26#8
  | .rolZpx _ => 0x36#8
  | .rolAbs _ => 0x2E#8
  | .rolAbsx _ => 0x3E#8
  | .rorAcc => 0x6A#8
  | .rorZp _ => 0x66#8
  | .rorZpx _ => 0x76#8
  | .rorAbs _ => 0x6E#8
  | .rorAbsx _ => 0x7E#8
  | .bpl _ => 0x10#8
  | .bmi _ => 0x30#8
  | .bvc _ => 0x50#8
  | .bvs _ => 0x70#8
  | .bcc _ => 0x90#8
  | .bcs _ => 0xB0#8
  | .bne _ => 0xD0#8
  | .beq _ => 0xF0#8
  | .jmpAbs _ => 0x4C#8
  | .jmpAbsInd _ => 0x6C#8
  | .pha => 0x48#8
  | .php => 0x08#8
  | .pla => 0x68#8
  | .plp => 0x28#8
  | .jsr _ => 0x20#8
  | .rts => 0x60#8
  | .brk => 0x00#8
  | .rti => 0x40#8
  | .ldaIm _ => 0xA9#8
  | .ldaZp _ => 0xA5#8
  | .ldaZpx _ => 0xB5#8
  | .ldaAbs _ => 0xAD#8
  | .ldaAbsx _ => 0xBD#8
  | .ldaAbsy _ => 0xB9#8
  | .ldaIndx _ => 0xA1#8
  | .ldaIndy _ => 0xB1#8
  | .ldxIm _ => 0xA2#8
  | .ldxZp _ => 0xA6#8
  | .ldxZpy _ => 0xB6#8
  | .ldxAbs _ => 0xAE#8
  | .ldxAbsy _ => 0xBE#8
  | .ldyIm _ => 0xA0#8
  | .ldyZp _ => 0xA4#8
  | .ldyZpx _ => 0xB4#8
  | .ldyAbs _ => 0xAC#8
  | .ldyAbsx _ => 0xBC#8
  | .staZp _ => 0x85#8
  | .staZpx _ => 0x95#8
  | .staAbs _ => 0x8D#8
  | .staAbsx _ => 0x9D#8
  | .staAbsy _ => 0x99#8
  | .staIndx _ => 0x81#8
  | .staIndy _ => 0x91#8
  | .stxZp _ => 0x86#8
  | .stxZpy _ => 0x96#8
  | .stxAbs _ => 0x8E#8
  | .styZp _ => 0x84#8
  | .styZpx _ => 0x94#8
  | .styAbs _ => 0x8C#8
  | .tax => 0xAA#8
  | .tay => 0xA8#8
  | .txa => 0x8A#8
  | .tya => 0x98#8
  | .tsx => 0xBA#8
  | .txs => 0x9A#8
  | .andIm _ => 0x29#8
  | .andZp _ => 0x25#8
  | .andZpx _ => 0x35#8
  | .andAbs _ => 0x2D#8
  | .andAbsx _ => 0x3D#8
  | .andAbsy _ => 0x39#8
  | .andIndx _ => 0x21#8
  | .andIndy _ => 0x31#8
  | .oraIm _ => 0x09#8
  | .oraZp _ => 0x05#8
  | .oraZpx _ => 0x15#8
  | .oraAbs _ => 0x0D#8
  | .oraAbsx _ => 0x1D#8
  | .oraAbsy _ => 0x19#8
  | .oraIndx _ => 0x01#8
  | .oraIndy _ => 0x11#8
  | .eorIm _ => 0x49#8
  | .eorZp _ => 0x45#8
  | .eorZpx _ => 0x55#8
  | .eorAbs _ => 0x4D#8
  | .eorAbsx _ => 0x5D#8
  | .eorAbsy _ => 0x59#8
  | .eorIndx _ => 0x41#8
  | .eorIndy _ => 0x51#8
  | .bitZp _ => 0x24#8
  | .bitAbs _ => 0x2C#8
  | .incZp _ => 0xE6#8
  | .incZpx _ => 0xF6#8
  | .incAbs _ => 0xEE#8
  | .incAbsx _ => 0xFE#8
  | .decZp _ => 0xC6#8
  | .decZpx _ => 0xD6#8
  | .decAbs _ => 0xCE#8
  | .decAbsx _ => 0xDE#8
  | .inx => 0xE8#8
  | .iny => 0xC8#8
  | .dex => 0xCA#8
  | .dey => 0x88#8
  | .clc => 0x18#8
  | .sec => 0x38#8
  | .cli => 0x58#8
  | .sei => 0x78#8
  | .cld => 0xD8#8
  | .sed => 0xF8#8
  | .clv => 0xB8#8
  | .nop => 0xEA#8

/-- The operand bytes of a memory operand, low byte first (R90, R93). -/
def MemOperand.bytes : MemOperand → List Byte
  | .zp l | .zpx l | .zpy l | .indx l | .indy l => [l]
  | .abs w | .absx w | .absy w => [lo w, hi w]

/-- The operand bytes of an operand, low byte first (R90, R93). -/
def Operand.bytes : Operand → List Byte
  | .imp | .acc => []
  | .im m => [m]
  | .mem o => o.bytes
  | .absInd ptr => [lo ptr, hi ptr]
  | .rel off => [off]

/-- The bytes of an instruction, lowest address first (R90). -/
def encode (i : Instr) : List Byte := i.opcode :: i.operand.bytes

/-- Byte `k` of an instruction given as a number whose bits 7:0 are its first byte; the bits from `nbits`
up are 0. -/
def tableByte (nbits w k : Nat) : Byte := BitVec.ofNat 8 ((w % 2 ^ nbits) >>> (8 * k))

/-- What the decoder reads from an instruction given as a number. -/
def decodeTableWord (nbits w : Nat) : Option Instr :=
  match decode [tableByte nbits w 0, tableByte nbits w 1, tableByte nbits w 2] with
  | .ok (i, _) => some i
  | .error _ => none

end Sys2Proof
end

