-- ==== Sys2Proof/Machine/Fetch.lean ====
section
/-! DEFINITION. What a step does besides running an instruction's meaning: what it turns to at a step
boundary (`30_encoding.md` R96, `60_exceptions.md` R258, R265), the fetch of an instruction's bytes,
taking an interrupt, an illegal opcode, an undocumented no-operation, and a halted core. -/

namespace Sys2Proof

open Sys2Proof.Machine

/-- The operand bytes a member of `UNDOC_NOP_SET` has (`30_encoding.md` R92, R100). -/
def NopMode.operandBytes : NopMode → Nat
  | .imp => 0
  | .im | .zp | .zpx | .zpy | .indx | .indy => 1
  | .abs | .absx | .absy => 2

/-- The memory operand of an undocumented no-operation with operand bytes `l` and `h`; none in the modes
`IMP` and `IM`, which have no effective address. -/
def NopMode.memOperand? (m : NopMode) (l h : Byte) : Option MemOperand :=
  match m with
  | .imp | .im => none
  | .zp => some (.zp l)
  | .zpx => some (.zpx l)
  | .zpy => some (.zpy l)
  | .abs => some (.abs (mkWord h l))
  | .absx => some (.absx (mkWord h l))
  | .absy => some (.absy (mkWord h l))
  | .indx => some (.indx l)
  | .indy => some (.indy l)

end Sys2Proof

namespace Sys2Proof.Machine

/-- The three bytes at `PC`, the longest an instruction can be (R90); addresses modulo 65536 (R29). -/
def State.codeBytes (s : State) : List Byte :=
  [s.load s.pc, s.load (s.pc + 1#16), s.load (s.pc + 2#16)]

/-- An NMI is taken at this boundary (`60_exceptions.md` R263, R265). -/
def State.nmiPending (s : State) : Bool := s.config.extInterrupts && s.nmiLatch

/-- An IRQ is pending and enabled at this boundary (R264, R265). -/
def State.irqPending (s : State) : Bool := s.config.extInterrupts && s.irqLine && !s.i

/-- The mode with which the build's `UNDOC_NOP_SET` admits an opcode byte (`30_encoding.md` R100). -/
def undocMode? (c : Config) (b : Byte) : Option NopMode := c.undocNops.lookup b

/-- What a step turns to. -/
inductive Action
  | halted (r : HaltReason)
  | nmi
  | irq
  | run (i : Instr)
  | undocNop (m : NopMode)
  | illegal
deriving DecidableEq, Repr

/-- What the step from `s` turns to: a halted core does not step (R251); NMI, then IRQ, come before the
instruction at `PC` (R258, R265); a byte outside the table is illegal unless `UNDOC_NOP_SET` admits it
(`30_encoding.md` R94, R96). -/
def nextAction (s : State) : Action :=
  match s.halt with
  | some r => .halted r
  | none =>
    if s.nmiPending then .nmi
    else if s.irqPending then .irq
    else match decode s.codeBytes with
      | .ok (i, _) => .run i
      | .error _ =>
        match undocMode? s.config (s.load s.pc) with
        | some m => .undocNop m
        | none => .illegal

/-- A step of a halted core (R251): the `IllegalOpcode` state is a fault; on `Brk`, and on `Timeout`,
which no step leaves in the latch, the precondition of `Step()` fails (logs 8, 9). -/
def stopHalted (r : HaltReason) : Result :=
  match r with
  | .brk pc => .refused (.haltedAtBrk pc)
  | .illegalOpcode pc byte => .fault (.illegalOpcode pc byte)
  | .timeout cycles => .refused (.haltedByHost cycles)

/-- The state in which an instruction's meaning starts: its opcode and operand bytes fetched, low address
first (`20_memory.md` R65, R66), `PC` after its last byte (`10_state.md` R28). -/
def fetchInstr (i : Instr) (s : State) : State := s.beginStep.fetch i.length

/-- The step that takes an NMI (R265, R266). -/
def takeNmi (s : State) : State := (s.beginStep.interruptEntry nmiVector).setNmi false

/-- The step that takes an IRQ (R265, R266). -/
def takeIrq (s : State) : State := s.beginStep.interruptEntry irqVector

/-- The step that meets an illegal opcode (R255): the one read, `PC` not advanced, the latch filled. -/
def haltIllegal (s : State) : State :=
  (s.beginStep.busRead s.pc).setHalt (some (.illegalOpcode s.pc (s.load s.pc)))

/-- The step that runs an undocumented no-operation (`30_encoding.md` R100): the accesses of its mode,
the data read and the page-cross dummy read included, and nothing else. -/
def runUndocNop (m : NopMode) (s : State) : State :=
  let fetched := s.beginStep.fetch (1 + m.operandBytes)
  match m.memOperand? (s.load (s.pc + 1#16)) (s.load (s.pc + 2#16)) with
  | some o => o.readAccesses fetched
  | none => if m = .imp then fetched.busRead fetched.pc else fetched

/-- `s` with the instruction of the number `w` stored at `PC`, and nothing in the way of fetching it: the
latch empty and no interrupt request (log 13). -/
def placeInstr (s : State) (nbits w : Nat) : State :=
  let m0 := s.mem.write s.pc.toNat (tableByte nbits w 0)
  let m1 := m0.write (s.pc + 1#16).toNat (tableByte nbits w 1)
  { s with
    mem := m1.write (s.pc + 2#16).toNat (tableByte nbits w 2)
    halt := none, irqLine := false, nmiLatch := false }

end Sys2Proof.Machine
end

