-- ==== Sys2Proof/Machine/Step.lean ====
section
/-! DEFINITION. One step of CORE, `execute_next_instruction()` (`30_encoding.md` R96): one instruction, or
one interrupt entry. -/

namespace Sys2Proof.Machine

/-- `Step()` of R96 and `60_exceptions.md` R265. -/
def step (s : State) : Host.Outcome State Fault Refusal :=
  match nextAction s with
  | .halted r => stopHalted r
  | .nmi => .next (takeNmi s)
  | .irq => .next (takeIrq s)
  | .run i => exec i (fetchInstr i s)
  | .undocNop m => .next (runUndocNop m s)
  | .illegal => .next (haltIllegal s)

/-- `s` with the instruction of a table number stored where the next step fetches. -/
def State.withFetchWord (s : State) (nbits w : Nat) : State := placeInstr s nbits w

end Sys2Proof.Machine
end

