-- ==== Sys2Proof/Machine/HostActions.lean ====
section
/-! DEFINITION. What the host does to CORE between steps (`70_reset_and_hazards.md` R290 to R297,
`60_exceptions.md` R251, R253, R262, R263): none of it is a step. -/

namespace Sys2Proof.Machine

/-- `LAUNCH` of `00_scope.md` R6: the power-on values the spec leaves open (`10_state.md` R40). R6 and
R40 do not list the two request inputs, and no rule gives their power-on values; the model leaves them
open too, in the last two fields (DESIGN CHOICE, log 20). -/
structure Launch where
  a : Byte
  x : Byte
  y : Byte
  sp : Byte
  pc : Word
  n : Bool
  v : Bool
  d : Bool
  i : Bool
  z : Bool
  c : Bool
  cycles : Nat
  irqLine : Bool
  nmiLatch : Bool
deriving DecidableEq, Repr

/-- The `LAUNCH` that `State.reset` takes: zeros (logs 1, 2), and no request (DESIGN CHOICE, logs 10,
20). -/
def Launch.zero : Launch :=
  { a := 0, x := 0, y := 0, sp := 0, pc := 0, n := false, v := false, d := false
    i := false, z := false, c := false, cycles := 0
    irqLine := false, nmiLatch := false }

/-- Power-on (R293, `10_state.md` R40): any `LAUNCH` values, memory all fill, the halt latch empty. The
line and the latch of the request inputs, of which the spec gives no power-on value, are open with the
rest (DESIGN CHOICE, log 20); nothing is on the bus and nothing is drawn (logs 6, 5). -/
def State.powerOn (l : Launch) (config : Config) : State :=
  { a := l.a, x := l.x, y := l.y, sp := l.sp, pc := l.pc
    n := l.n, v := l.v, d := l.d, i := l.i, z := l.z, c := l.c
    mem := [], cycles := l.cycles, halt := none, irqLine := l.irqLine, nmiLatch := l.nmiLatch
    bus := [], draws := 0, config := config }

/-- `Reset()` (R290, R291): the two vector reads, low byte first, then the new `PC`, `SP`, `I`, `D`, an
empty latch, and with `EXT_INTERRUPTS` a cleared NMI latch. Everything else is unchanged. -/
def hostReset (s : State) : State :=
  let read := (s.beginStep.busRead resetVector).busRead (resetVector + 1#16)
  { read with
    pc := mkWord (s.load (resetVector + 1#16)) (s.load resetVector)
    sp := 0xFD#8, i := true, d := false, halt := none
    nmiLatch := if s.config.extInterrupts then false else s.nmiLatch }

/-- Installing the image (R294): each byte the image defines is written; no bus access, no cycle. -/
def installImage : List (Word × Byte) → State → State
  | [], s => s
  | (a, b) :: rest, s => installImage rest { s with mem := s.mem.write a.toNat b }

/-- What a direct launch writes (R293): `PC`, and whichever registers and flags the claim names. -/
structure DirectLaunch where
  pc : Word
  a : Option Byte
  x : Option Byte
  y : Option Byte
  sp : Option Byte
  n : Option Bool
  v : Option Bool
  d : Option Bool
  i : Option Bool
  z : Option Bool
  c : Option Bool
deriving DecidableEq, Repr

/-- A direct launch (R293): what the host does not write keeps its value. -/
def directLaunch (w : DirectLaunch) (s : State) : State :=
  { s with
    pc := w.pc, a := w.a.getD s.a, x := w.x.getD s.x, y := w.y.getD s.y, sp := w.sp.getD s.sp
    n := w.n.getD s.n, v := w.v.getD s.v, d := w.d.getD s.d, i := w.i.getD s.i
    z := w.z.getD s.z, c := w.c.getD s.c }

/-- The host clears a `Brk` latch (`60_exceptions.md` R251); it may not clear another. -/
def clearBrk (s : State) : State :=
  match s.halt with
  | some (.brk _) => s.setHalt none
  | _ => s

/-- What the host reports when it abandons a run (R253); the core's state and latch are unchanged. -/
def timeoutReport (s : State) : HaltReason := .timeout s.cycles

/-- The platform drives the IRQ input (R262). -/
def setIrqLine (level : Bool) (s : State) : State := s.setIrq level

/-- A request edge on the NMI input (R263); a second edge while the latch is set is lost. -/
def nmiEdge (s : State) : State := s.setNmi true

end Sys2Proof.Machine
end

