-- ==== Sys2Proof/Machine/Timing.lean ====
section
/-! DEFINITION. The timing columns of the opcode table (`30_encoding.md` R97, R98, `70_reset_and_hazards.md`
R301, R302): access kind, base cycles and penalties, as the spec tabulates them. No meaning reads them:
the clock advances by the accesses an instruction makes, and the two are stated to agree. -/

namespace Sys2Proof

/-- The access kinds of R97. -/
inductive AccessKind
  | read | write | rmw | acc | implied | branch | jump | special
deriving DecidableEq, Repr

/-- The column `access` of R98; the shifts and rotates are `acc` in mode `ACC`, else `rmw`. -/
def Mnemonic.accessKind (m : Mnemonic) (md : Mode) : AccessKind :=
  match m with
  | .adc | .sbc | .cmp | .cpx | .cpy | .lda | .ldx | .ldy | .and | .ora | .eor | .bit => .read
  | .sta | .stx | .sty => .write
  | .inc | .dec => .rmw
  | .tax | .tay | .txa | .tya | .tsx | .txs | .inx | .iny | .dex | .dey | .clc | .sec | .cli
  | .sei | .cld | .sed | .clv | .nop => .implied
  | .bpl | .bmi | .bvc | .bvs | .bcc | .bcs | .bne | .beq => .branch
  | .jmp => .jump
  | .pha | .php | .pla | .plp | .jsr | .rts | .brk | .rti => .special
  | .asl | .lsr | .rol | .ror => if md = .acc then .acc else .rmw

/-- The access kind of an instruction. -/
def Instr.accessKind (i : Instr) : AccessKind := i.mnemonic.accessKind i.mode

/-- The column `base cycles` of R98: the accesses an instruction makes when no penalty applies. -/
def Instr.baseCycles : Instr → Nat
  | .adcIm _ | .sbcIm _ | .cmpIm _ | .cpxIm _ | .cpyIm _ | .aslAcc | .lsrAcc | .rolAcc
  | .rorAcc | .bpl _ | .bmi _ | .bvc _ | .bvs _ | .bcc _ | .bcs _ | .bne _ | .beq _ | .ldaIm _
  | .ldxIm _ | .ldyIm _ | .tax | .tay | .txa | .tya | .tsx | .txs | .andIm _ | .oraIm _
  | .eorIm _ | .inx | .iny | .dex | .dey | .clc | .sec | .cli | .sei | .cld | .sed | .clv
  | .nop => 2
  | .adcZp _ | .sbcZp _ | .cmpZp _ | .cpxZp _ | .cpyZp _ | .jmpAbs _ | .pha | .php | .ldaZp _
  | .ldxZp _ | .ldyZp _ | .staZp _ | .stxZp _ | .styZp _ | .andZp _ | .oraZp _ | .eorZp _
  | .bitZp _ => 3
  | .adcZpx _ | .adcAbs _ | .adcAbsx _ | .adcAbsy _ | .sbcZpx _ | .sbcAbs _ | .sbcAbsx _
  | .sbcAbsy _ | .cmpZpx _ | .cmpAbs _ | .cmpAbsx _ | .cmpAbsy _ | .cpxAbs _ | .cpyAbs _ | .pla
  | .plp | .ldaZpx _ | .ldaAbs _ | .ldaAbsx _ | .ldaAbsy _ | .ldxZpy _ | .ldxAbs _ | .ldxAbsy _
  | .ldyZpx _ | .ldyAbs _ | .ldyAbsx _ | .staZpx _ | .staAbs _ | .stxZpy _ | .stxAbs _
  | .styZpx _ | .styAbs _ | .andZpx _ | .andAbs _ | .andAbsx _ | .andAbsy _ | .oraZpx _
  | .oraAbs _ | .oraAbsx _ | .oraAbsy _ | .eorZpx _ | .eorAbs _ | .eorAbsx _ | .eorAbsy _
  | .bitAbs _ => 4
  | .adcIndy _ | .sbcIndy _ | .cmpIndy _ | .aslZp _ | .lsrZp _ | .rolZp _ | .rorZp _
  | .jmpAbsInd _ | .ldaIndy _ | .staAbsx _ | .staAbsy _ | .andIndy _ | .oraIndy _ | .eorIndy _
  | .incZp _ | .decZp _ => 5
  | .adcIndx _ | .sbcIndx _ | .cmpIndx _ | .aslZpx _ | .aslAbs _ | .lsrZpx _ | .lsrAbs _
  | .rolZpx _ | .rolAbs _ | .rorZpx _ | .rorAbs _ | .jsr _ | .rts | .rti | .ldaIndx _
  | .staIndx _ | .staIndy _ | .andIndx _ | .oraIndx _ | .eorIndx _ | .incZpx _ | .incAbs _
  | .decZpx _ | .decAbs _ => 6
  | .aslAbsx _ | .lsrAbsx _ | .rolAbsx _ | .rorAbsx _ | .brk | .incAbsx _ | .decAbsx _ => 7

open Sys2Proof.Machine

/-- The condition a branch tests (`43_branches_jumps.md` R161 to R168); none for other mnemonics. -/
def Mnemonic.condition? (m : Mnemonic) (s : State) : Option Bool :=
  match m with
  | .bpl => some (!s.n)
  | .bmi => some s.n
  | .bvc => some (!s.v)
  | .bvs => some s.v
  | .bcc => some (!s.c)
  | .bcs => some s.c
  | .bne => some (!s.z)
  | .beq => some s.z
  | _ => none

/-- The cycles beyond the base count (R301), for a state whose `pc` is the address after the operand: one
for a `read` whose indexing crosses a page; for a taken branch one, or two when the target is in another
page than the next instruction. -/
def Instr.penalty (i : Instr) (s : State) : Nat :=
  match i.accessKind, i.operand with
  | .read, .mem o =>
    match o.indexing? s with
    | some (base, index) => if pageCrossed base index then 1 else 0
    | none => 0
  | .branch, .rel off =>
    if i.mnemonic.condition? s = some true then
      if hi (branchTarget off s) = hi s.pc then 1 else 2
    else 0
  | _, _ => 0

end Sys2Proof
end

