-- ==== Sys2Proof/Safety.lean ====
section
/-! DEFINITION. What counts as a safe state and a safe run, the invariant every step keeps, and the words
claims are stated in: an instruction's row of the opcode table and operand byte, what it answers, the
access lists of the address modes, and the writers of each flag (`10_state.md` R32). -/

namespace Sys2Proof

open Sys2Proof.Machine

/-- The operand byte `M` or `v` of `00_scope.md` R10, where the mode has one. -/
def Operand.byte? (o : Operand) (s : State) : Option Byte :=
  match o with
  | .acc => some s.a
  | .im m => some m
  | .mem o => some (s.load (o.ea s))
  | .imp | .absInd _ | .rel _ => none

/-- Mode, opcode byte and base cycles of an instruction: its row of `30_encoding.md` R98. -/
def Instr.row (i : Instr) : Mode × Byte × Nat := (i.mode, i.opcode, i.baseCycles)

end Sys2Proof

namespace Sys2Proof.Machine

/-- The core may step: the latch is empty (`30_encoding.md` R96). -/
abbrev State.Running (s : State) : Prop := s.halt = none

/-- The run has ended at the `BRK` at `pc` (`70_reset_and_hazards.md` R296). -/
abbrev State.EndedAt (s : State) (pc : Word) : Prop := s.halt = some (.brk pc)

/-- The state is the fault of `60_exceptions.md` R255, never the end of a run. -/
abbrev State.Faulted (s : State) : Prop := ∃ pc byte, s.halt = some (.illegalOpcode pc byte)

/-- The next step is an instruction's: the latch is empty and no interrupt is taken (R96, R265). -/
abbrev State.AtInstruction (s : State) : Prop :=
  s.halt = none ∧ s.nmiPending = false ∧ s.irqPending = false

/-- What the latch says of the state it stands in. -/
def State.LatchOk (s : State) : Prop :=
  match s.halt with
  | none => True
  | some (.brk _) => s.i = true
  | some (.illegalOpcode pc byte) =>
    pc = s.pc ∧ byte = s.load s.pc ∧ byte ∈ illegalOpcodes
  | some (.timeout _) => False

/-- The invariant of every step: memory is in its canonical form (`20_memory.md` R50); a latched `Brk`
stands with `I` set (R254); a latched `IllegalOpcode` names the byte at `PC`, which is one of the illegal
bytes (R255); `Timeout` is never in the latch (R253). -/
def State.Inv (s : State) : Prop := s.mem.wf ∧ s.LatchOk

/-- A step that is safe: it answers a next state that is not the fault of R255. -/
def SafeStep (s : State) : Prop := ∃ t, step s = .next t ∧ ¬ t.Faulted

/-- The mnemonics that write each flag, R32 of `10_state.md`. -/
def writersOfN : List Mnemonic :=
  [.lda, .ldx, .ldy, .tax, .tay, .txa, .tya, .tsx, .pla, .and, .ora, .eor, .inc, .dec, .inx, .iny,
    .dex, .dey, .asl, .lsr, .rol, .ror, .adc, .sbc, .cmp, .cpx, .cpy, .bit, .plp, .rti]
/-- Writers of `V` (R32). -/
def writersOfV : List Mnemonic := [.adc, .sbc, .bit, .clv, .plp, .rti]
/-- Writers of `D` (R32). -/
def writersOfD : List Mnemonic := [.sed, .cld, .plp, .rti]
/-- Writers of `I` (R32). -/
def writersOfI : List Mnemonic := [.sei, .cli, .plp, .rti, .brk]
/-- Writers of `Z` (R32): those of `N`. -/
def writersOfZ : List Mnemonic := writersOfN
/-- Writers of `C` (R32). -/
def writersOfC : List Mnemonic :=
  [.adc, .sbc, .cmp, .cpx, .cpy, .asl, .lsr, .rol, .ror, .sec, .clc, .plp, .rti]

/-- The load of the byte `s` holds at an address, as a bus access (`20_memory.md` R53). -/
def rd (s : State) (adr : Word) : BusAccess := ⟨.read, adr, s.load adr⟩

/-- A store as a bus access (`20_memory.md` R54). -/
def wr (adr : Word) (b : Byte) : BusAccess := ⟨.write, adr, b⟩

/-- The reads that fetch `k` bytes at `PC`, lowest address first (`20_memory.md` R56, R66). -/
def fetchLog (s : State) (k : Nat) : List BusAccess :=
  (List.range k).map fun j => rd s (s.pc + BitVec.ofNat 16 j)

/-- The accesses of kind `read` after the operand bytes, in order, as the rules of
`40_addressing_modes.md` list them: R123 to R128, R130, R131. -/
def readLog (o : MemOperand) (s : State) : List BusAccess :=
  match o with
  | .zp l => [rd s (zext16 l)]
  | .zpx l => [rd s (zext16 l), rd s (zext16 (l + s.x))]
  | .zpy l => [rd s (zext16 l), rd s (zext16 (l + s.y))]
  | .abs w => [rd s w]
  | .absx w =>
    (if 256 ≤ (lo w).toNat + s.x.toNat then [rd s (mkWord (hi w) (lo w + s.x))] else [])
      ++ [rd s (w + zext16 s.x)]
  | .absy w =>
    (if 256 ≤ (lo w).toNat + s.y.toNat then [rd s (mkWord (hi w) (lo w + s.y))] else [])
      ++ [rd s (w + zext16 s.y)]
  | .indx l =>
    let pl := s.load (zext16 (l + s.x))
    let ph := s.load (zext16 (l + s.x + 1#8))
    [rd s (zext16 l), rd s (zext16 (l + s.x)), rd s (zext16 (l + s.x + 1#8)), rd s (mkWord ph pl)]
  | .indy l =>
    let pl := s.load (zext16 l)
    let ph := s.load (zext16 (l + 1#8))
    [rd s (zext16 l), rd s (zext16 (l + 1#8))]
      ++ (if 256 ≤ pl.toNat + s.y.toNat then [rd s (mkWord ph (pl + s.y))] else [])
      ++ [rd s (mkWord ph pl + zext16 s.y)]

/-- The accesses of kinds `write` and `rmw` before the first access at the effective address: as for a
read, but the dummy read at the partial address is always made (R127, R128, R131). -/
def approachLog (o : MemOperand) (s : State) : List BusAccess :=
  match o with
  | .zp _ | .abs _ => []
  | .zpx l | .zpy l => [rd s (zext16 l)]
  | .absx w => [rd s (mkWord (hi w) (lo w + s.x))]
  | .absy w => [rd s (mkWord (hi w) (lo w + s.y))]
  | .indx l => [rd s (zext16 l), rd s (zext16 (l + s.x)), rd s (zext16 (l + s.x + 1#8))]
  | .indy l =>
    let pl := s.load (zext16 l)
    let ph := s.load (zext16 (l + 1#8))
    [rd s (zext16 l), rd s (zext16 (l + 1#8)), rd s (mkWord ph (pl + s.y))]

/-- `exec i s` answers a next state that is `u` in everything but the clock and the record of the bus,
and the clock has counted the accesses of R98 and R301 beyond the instruction's own bytes. -/
def AnswersNext (i : Instr) (s u : State) : Prop :=
  ∃ t, exec i s = .next t ∧ t = { u with cycles := t.cycles, bus := t.bus } ∧
    t.cycles + i.length = s.cycles + i.baseCycles + i.penalty s

/-- As `AnswersNext`, for an instruction that stores: every address then holds the byte `bytes` says. -/
def AnswersStoring (i : Instr) (s u : State) (bytes : Word → Byte) : Prop :=
  ∃ t, exec i s = .next t ∧ t = { u with mem := t.mem, cycles := t.cycles, bus := t.bus } ∧
    (∀ adr, t.load adr = bytes adr) ∧
    t.cycles + i.length = s.cycles + i.baseCycles + i.penalty s

/-- The result `r` of a shift, rotate, increment or decrement "goes where the operand came from"
(`42_shift_rotate.md` R150): into `A`, or into the one byte at the effective address. -/
def AnswersInPlace (i : Instr) (s u : State) (r : Byte) : Prop :=
  (i.operand = .acc ∧ AnswersNext i s { u with a := r }) ∨
  ∃ o, i.operand = .mem o ∧
    AnswersStoring i s u fun adr => if adr = o.ea s then r else s.load adr

/-- What a trap entry leaves (`60_exceptions.md` R259): the return address high byte first and the status
byte `p` on the stack, `SP` 3 lower, `I` set, `PC` loaded from the vector, nothing else but the latches
and the clock changed. -/
def EntersInterrupt (s t : State) (ret : Word) (p : Byte) (vec : Word) : Prop :=
  t = { s with
    sp := s.sp - 3#8, i := true, pc := mkWord (s.load (vec + 1#16)) (s.load vec), mem := t.mem,
    cycles := t.cycles, bus := t.bus, halt := t.halt, nmiLatch := t.nmiLatch } ∧
  ∀ adr, t.load adr =
    if adr = stackAddr s.sp then hi ret
    else if adr = stackAddr (s.sp - 1#8) then lo ret
    else if adr = stackAddr (s.sp - 2#8) then p
    else s.load adr

/-- `RTI`, run with `SP` and the three bytes of the frame as the entry left them, resumes at the
interrupted `PC` with the old `SP` and flags (R260, R266). -/
def ResumesByRti (s t : State) : Prop :=
  ∀ u : State, u.sp = t.sp →
    (∀ k : Byte, k.toNat < 3 → u.load (stackAddr (s.sp - k)) = t.load (stackAddr (s.sp - k))) →
    ∃ r, exec .rti u = .next r ∧ r.pc = s.pc ∧ r.sp = s.sp ∧
      r.n = s.n ∧ r.v = s.v ∧ r.d = s.d ∧ r.i = s.i ∧ r.z = s.z ∧ r.c = s.c

/-- The function `f` that a read-modify-write mnemonic applies (`42_shift_rotate.md` R151 to R154,
`46_logic_incdec_flags_nop.md` R225, R226), in the arithmetic of the spec; the byte itself for others. -/
def rmwResult (m : Mnemonic) (b : Byte) (c : Bool) : Byte :=
  match m with
  | .asl => BitVec.ofNat 8 (b.toNat * 2 % 256)
  | .lsr => BitVec.ofNat 8 (b.toNat / 2)
  | .rol => BitVec.ofNat 8 ((b.toNat * 2 + c.toNat) % 256)
  | .ror => BitVec.ofNat 8 (b.toNat / 2 + 128 * c.toNat)
  | .inc => BitVec.ofNat 8 ((b.toNat + 1) % 256)
  | .dec => BitVec.ofNat 8 ((b.toNat + 255) % 256)
  | _ => b

/-- "A byte is valid packed BCD when both its nibbles are 0 to 9" (`41_arithmetic_compare.md` R142). -/
abbrev PackedBcd (b : Byte) : Prop := b.toNat % 16 ≤ 9 ∧ b.toNat / 16 ≤ 9

/-- `dec(b)` of R142: the number two packed decimal digits stand for. -/
def decValue (b : Byte) : Nat := 10 * (b.toNat / 16) + b.toNat % 16

end Sys2Proof.Machine
end

