-- ==== Sys2Proof/Certificates/Slice0/Obligations.lean ====
section
/-! DEFINITION. The statements for the provers, from the numbered rules of spec/. Where a statement
speaks of `s.pc` at an instruction's meaning, the instruction's bytes have been fetched, so `s.pc` is the
address after its last operand byte (`10_state.md` R28); `StepRunsDecoded` ties that to a step. -/

section

open Sys2Proof Sys2Proof.Machine

/-- No bit of an encoding is dropped: `30_encoding.md` R90, R92, R93, R94, R98,
`40_addressing_modes.md` R136. -/
def Obligations.DecodeOfEncode : Prop :=
  ∀ (i : Instr) (rest : List Byte), decode (encode i ++ rest) = .ok (i, rest)

/-- Each byte string has one meaning: `30_encoding.md` R90 to R94, R98. -/
def Obligations.EncodeOfDecode : Prop :=
  ∀ (bytes : List Byte) (i : Instr) (rest : List Byte),
    decode bytes = .ok (i, rest) → bytes = encode i ++ rest

/-- The decoder written from R98 and the list written from R99 are complements, `30_encoding.md`. -/
def Obligations.IllegalBytesRefused : Prop :=
  ∀ (b : Byte) (rest : List Byte),
    decode (b :: rest) = .error (.illegalOpcode b) ↔ b ∈ illegalOpcodes

/-- "A pair not in this table does not exist", `40_addressing_modes.md` R136. -/
def Obligations.PairsOfModeTable : Prop :=
  ∀ (m : Mnemonic) (md : Mode),
    (∃ i : Instr, i.mnemonic = m ∧ i.mode = md) ↔ validPair m md

/-- Sample words of `30_encoding.md` R98, low operand byte first (R57, R90). -/
def Obligations.SampleWordsDecode : Prop :=
  decodeTableWord 16 0x05A9 = some (.ldaIm 0x05#8) ∧
  decodeTableWord 24 0x12F89D = some (.staAbsx 0x12F8#16) ∧
  decodeTableWord 16 0x2061 = some (.adcIndx 0x20#8) ∧
  decodeTableWord 8 0x0A = some .aslAcc ∧
  decodeTableWord 16 0xF8D0 = some (.bne 0xF8#8) ∧
  decodeTableWord 24 0x02FF6C = some (.jmpAbsInd 0x02FF#16) ∧
  decodeTableWord 24 0x200020 = some (.jsr 0x2000#16) ∧
  decodeTableWord 8 0x00 = some .brk ∧
  decodeTableWord 16 0x10E6 = some (.incZp 0x10#8) ∧
  decodeTableWord 8 0xEA = some .nop

/-- `30_encoding.md` R96 with the fetch of `20_memory.md` R56, R66 and the `PC` of `10_state.md`
R28. -/
def Obligations.StepRunsDecoded : Prop :=
  ∀ (s : State) (i : Instr) (rest : List Byte),
    s.AtInstruction → decode s.codeBytes = .ok (i, rest) →
    step s = exec i
      { s with
        pc := s.pc + BitVec.ofNat 16 i.length
        cycles := s.cycles + i.length
        bus := fetchLog s i.length }

/-- No event but `BRK` and the illegal opcode exists (`60_exceptions.md` R256). That the step which
meets an illegal opcode answers a next state with the latch filled, and no fault, is the model's
rendering, DEDUCED (log 8): the spec describes the state that step leaves (R255) and calls it a
fault. -/
def Obligations.EveryRunningStepCompletes : Prop :=
  ∀ s : State, s.halt = none → ∃ t, step s = .next t

/-- "No mode can raise an exception" (`40_addressing_modes.md` R135) and no instruction can fault
(R140, R160, R180, R200, R220). -/
def Obligations.EveryInstructionCompletes : Prop :=
  ∀ (i : Instr) (s : State), ∃ t, exec i s = .next t

/-- The hold of `60_exceptions.md` R251 and what lifts it. That the step of an `IllegalOpcode` latch
is the fault of that name, and how the step stops on the others, is the model's rendering, DEDUCED
(logs 8, 9). -/
def Obligations.HaltedCoreDoesNotStep : Prop :=
  ∀ (s : State) (r : HaltReason), s.halt = some r →
    (∀ t, step s ≠ .next t) ∧
    (∀ pc byte, r = .illegalOpcode pc byte → step s = .fault (.illegalOpcode pc byte)) ∧
    (hostReset s).halt = none ∧
    (∀ pc, r = .brk pc → clearBrk s = { s with halt := none }) ∧
    ((∀ pc, r ≠ .brk pc) → clearBrk s = s)

/-- The state of `60_exceptions.md` R255: no register, flag or memory byte changed, `PC` not
advanced; only `Reset()` leaves it (R251). That this step answers a next state and a further step
the fault of that name is the model's rendering, DEDUCED (log 8). -/
def Obligations.IllegalOpcodeHalts : Prop :=
  ∀ s : State, s.AtInstruction → s.load s.pc ∈ illegalOpcodes →
    (∀ m, (s.load s.pc, m) ∉ s.config.undocNops) →
    ∃ t, step s = .next t ∧
      t = { s with
        cycles := s.cycles + 1
        bus := [rd s s.pc]
        halt := some (.illegalOpcode s.pc (s.load s.pc)) } ∧
      step t = .fault (.illegalOpcode s.pc (s.load s.pc)) ∧ clearBrk t = t ∧
      (hostReset t).halt = none

/-- `30_encoding.md` R100, decision D3. One mode a byte is what `Config.wf` asks of a build (log
12). -/
def Obligations.UndocumentedNopRuns : Prop :=
  (∀ (s : State) (m : NopMode), s.AtInstruction → s.load s.pc ∈ illegalOpcodes →
    (s.load s.pc, m) ∈ s.config.undocNops →
    (∀ m', (s.load s.pc, m') ∈ s.config.undocNops → m' = m) →
    let accesses := fetchLog s (1 + m.operandBytes) ++
      match m.memOperand? (s.load (s.pc + 1#16)) (s.load (s.pc + 2#16)) with
      | some o => readLog o s
      | none => if m = .imp then [rd s (s.pc + 1#16)] else []
    step s = .next
      { s with
        pc := s.pc + BitVec.ofNat 16 (1 + m.operandBytes)
        cycles := s.cycles + accesses.length
        bus := accesses }) ∧
  Config.decided.undocNops = []

/-- The entry sequence of `60_exceptions.md` R266 with the NMI vector; that NMI comes first and
clears its latch is R263, R265 (decision D12). -/
def Obligations.NmiTaken : Prop :=
  ∀ s : State, s.halt = none → s.config.extInterrupts = true → s.nmiLatch = true →
    ∃ t p, step s = .next t ∧
      p = BitVec.ofNat 8 (s.n.toNat * 128 + s.v.toNat * 64 + 32 + s.d.toNat * 8 + s.i.toNat * 4
        + s.z.toNat * 2 + s.c.toNat) ∧
      EntersInterrupt s t s.pc p 0xFFFA#16 ∧
      t.nmiLatch = false ∧ t.halt = none ∧ t.cycles = s.cycles + 7 ∧ ResumesByRti s t ∧
      t.bus = [rd s s.pc, rd s s.pc, wr (stackAddr s.sp) (hi s.pc),
        wr (stackAddr (s.sp - 1#8)) (lo s.pc), wr (stackAddr (s.sp - 2#8)) p,
        rd s 0xFFFA#16, rd s (0xFFFA#16 + 1#16)]

/-- `60_exceptions.md` R265 (decision D12): the three cases of a step boundary. In the third the
step is the one a core without the request makes. -/
def Obligations.IrqTakenWhenUnmasked : Prop :=
  ∀ (s : State) (p : Byte), s.halt = none → s.config.extInterrupts = true →
    p = BitVec.ofNat 8 (s.n.toNat * 128 + s.v.toNat * 64 + 32 + s.d.toNat * 8 + s.i.toNat * 4
      + s.z.toNat * 2 + s.c.toNat) →
    (s.nmiLatch = true →
      ∃ t, step s = .next t ∧ EntersInterrupt s t s.pc p 0xFFFA#16 ∧
        t.nmiLatch = false ∧ t.halt = none) ∧
    (s.nmiLatch = false → s.irqLine = true → s.i = false →
      ∃ t, step s = .next t ∧ EntersInterrupt s t s.pc p 0xFFFE#16 ∧
        t.nmiLatch = false ∧ t.halt = none ∧ t.cycles = s.cycles + 7 ∧ ResumesByRti s t ∧
        t.bus = [rd s s.pc, rd s s.pc, wr (stackAddr s.sp) (hi s.pc),
        wr (stackAddr (s.sp - 1#8)) (lo s.pc), wr (stackAddr (s.sp - 2#8)) p,
        rd s 0xFFFE#16, rd s (0xFFFE#16 + 1#16)]) ∧
    (s.nmiLatch = false → (s.irqLine = false ∨ s.i = true) →
      (∀ i rest, decode s.codeBytes = .ok (i, rest) → step s = exec i (fetchInstr i s)) ∧
      ∃ t, step { s with irqLine := false } = .next t ∧
        step s = .next { t with irqLine := s.irqLine })

/-- `60_exceptions.md` R262 (decision D12). -/
def Obligations.NoRequestInputsByDefault : Prop :=
  (∀ (s : State) (irq nmi : Bool), s.config.extInterrupts = false →
    (∀ t, step s = .next t →
      step { s with irqLine := irq, nmiLatch := nmi } =
        .next { t with irqLine := irq, nmiLatch := nmi }) ∧
    (∀ f, step s = .fault f → step { s with irqLine := irq, nmiLatch := nmi } = .fault f) ∧
    (∀ f, step s = .refused f → step { s with irqLine := irq, nmiLatch := nmi } = .refused f)) ∧
  Config.decided.extInterrupts = false ∧
  ∀ s t : State, step s = .next t → t.irqLine = s.irqLine

/-- `70_reset_and_hazards.md` R290, R291 and the table of `10_state.md` R41. -/
def Obligations.ResetAction : Prop :=
  ∀ s : State, hostReset s =
    { s with
      pc := mkWord (s.load 0xFFFD#16) (s.load 0xFFFC#16)
      sp := 0xFD#8, i := true, d := false, halt := none
      nmiLatch := if s.config.extInterrupts then false else s.nmiLatch
      cycles := s.cycles + 2
      bus := [rd s 0xFFFC#16, rd s 0xFFFD#16] }

/-- `70_reset_and_hazards.md` R294 over the fill of `20_memory.md` R51. -/
def Obligations.ImageOverFill : Prop :=
  ∀ (l : Launch) (config : Config) (image : List (Word × Byte)),
    ∃ mem, installImage image (State.powerOn l config) = { State.powerOn l config with mem := mem } ∧
      ∀ adr : Word, mem.read adr.toNat = ((image.reverse.lookup adr).getD 0x55#8)

/-- The state the host starts from is `Reset()` of a power-on state; the zeros are the model's
choice (logs 1, 2, 5, 10, 20). -/
def Obligations.ResetStateIsZeroLaunch : Prop :=
  State.reset = hostReset (State.powerOn Launch.zero Config.decided) ∧
  State.reset.pc = 0x5555#16 ∧ State.reset.sp = 0xFD#8 ∧ State.reset.i = true ∧
  State.reset.d = false ∧ State.reset.halt = none ∧ State.reset.mem = []

/-- The start of `StepKeepsInv`. -/
def Obligations.InvAtReset : Prop :=
  State.reset.Inv

/-- The canonical memory of R50 and the truth of the latch, `60_exceptions.md` R251 to R255. -/
def Obligations.StepKeepsInv : Prop :=
  ∀ s t : State, s.Inv → step s = .next t → t.Inv

/-- Parameters are fixed (`00_scope.md` R6; held in State by log 7); the core never drives its own
IRQ input (`60_exceptions.md` R262). -/
def Obligations.StepKeepsBuild : Prop :=
  ∀ s t : State, step s = .next t → t.config = s.config ∧ t.irqLine = s.irqLine

/-- `20_memory.md` R86. -/
def Obligations.ClockCountsAccesses : Prop :=
  ∀ s t : State, step s = .next t → t.cycles = s.cycles + t.bus.length

/-- `70_reset_and_hazards.md` R300, R301; base counts and penalties are the columns of
`30_encoding.md` R98 (`Instr.baseCycles`, `Instr.penalty`), not the model's accesses. -/
def Obligations.CyclesAreBasePlusPenalty : Prop :=
  ∀ (s t : State) (i : Instr) (rest : List Byte),
    s.AtInstruction → decode s.codeBytes = .ok (i, rest) → step s = .next t →
    t.bus.length = i.baseCycles + i.penalty { s with pc := s.pc + BitVec.ofNat 16 i.length } ∧
    t.cycles = s.cycles + t.bus.length

/-- `40_addressing_modes.md` R123 to R128, R130, R131, in the arithmetic of `00_scope.md` R7. -/
def Obligations.EffectiveAddresses : Prop :=
  ∀ (s : State) (l : Byte) (w : Word),
    ((MemOperand.zp l).ea s).toNat = l.toNat ∧
    ((MemOperand.zpx l).ea s).toNat = (l.toNat + s.x.toNat) % 256 ∧
    ((MemOperand.zpy l).ea s).toNat = (l.toNat + s.y.toNat) % 256 ∧
    ((MemOperand.abs w).ea s).toNat = w.toNat ∧
    ((MemOperand.absx w).ea s).toNat = (w.toNat + s.x.toNat) % 65536 ∧
    ((MemOperand.absy w).ea s).toNat = (w.toNat + s.y.toNat) % 65536 ∧
    ((MemOperand.indx l).ea s).toNat =
      (s.mem.read ((l.toNat + s.x.toNat) % 256)).toNat +
        256 * (s.mem.read ((l.toNat + s.x.toNat + 1) % 256)).toNat ∧
    ((MemOperand.indy l).ea s).toNat =
      ((s.mem.read l.toNat).toNat + 256 * (s.mem.read ((l.toNat + 1) % 256)).toNat
        + s.y.toNat) % 65536

/-- "That order is normative" (`20_memory.md` R65): the lists of `40_addressing_modes.md` R122 to
R128, R130, R131. -/
def Obligations.ReadAccessOrder : Prop :=
  ∀ (i : Instr) (s : State), i.accessKind = .read →
    ((∃ m, i.operand = .im m) ∧ ∃ t, exec i s = .next t ∧ t.bus = s.bus) ∨
    ∃ o, i.operand = .mem o ∧ ∃ t, exec i s = .next t ∧ t.bus = s.bus ++ readLog o s

/-- "Indexed stores always make the dummy read at the partial address" (`45_load_store_transfer.md`
R200). -/
def Obligations.WriteAccessOrder : Prop :=
  ∀ (i : Instr) (s : State), i.accessKind = .write →
    ∃ o t, i.operand = .mem o ∧ exec i s = .next t ∧
      t.bus = s.bus ++ approachLog o s ++ [wr (o.ea s) (t.load (o.ea s))] ∧
      t.load (o.ea s) = (if i.mnemonic = .sta then s.a else if i.mnemonic = .stx then s.x else s.y)

/-- `20_memory.md` R68; the flags are in the statements of the six mnemonics. -/
def Obligations.RmwAccessOrder : Prop :=
  ∀ (i : Instr) (s : State), i.accessKind = .rmw →
    ∃ o t, i.operand = .mem o ∧ exec i s = .next t ∧
      t.bus = s.bus ++ approachLog o s ++
        [rd s (o.ea s), wr (o.ea s) (s.load (o.ea s)), wr (o.ea s) (t.load (o.ea s))] ∧
      t.load (o.ea s) = rmwResult i.mnemonic (s.load (o.ea s)) s.c ∧
      ∀ adr, adr ≠ o.ea s → t.load adr = s.load adr

/-- `20_memory.md` R67, which the spec marks as its own inference from R65, with the read at `PC`
from general knowledge, and the lists of `40_addressing_modes.md` R120, R121 (log 16). -/
def Obligations.OneByteDummyRead : Prop :=
  ∀ (i : Instr) (s : State), i.accessKind = .implied ∨ i.accessKind = .acc →
    ∃ t, exec i s = .next t ∧ t.bus = s.bus ++ [rd s s.pc] ∧ t.pc = s.pc ∧
      t.cycles = s.cycles + 1 ∧ t.mem = s.mem

/-- `45_load_store_transfer.md` R201 to R203, encodings and cycles included. -/
def Obligations.LoadResults : Prop :=
  ∀ (i : Instr) (s : State),
    (i.mnemonic = .lda →
      i.row ∈ [(.im, 0xA9#8, 2), (.zp, 0xA5#8, 3), (.zpx, 0xB5#8, 4), (.abs, 0xAD#8, 4),
       (.absx, 0xBD#8, 4), (.absy, 0xB9#8, 4), (.indx, 0xA1#8, 6), (.indy, 0xB1#8, 5)] ∧
      ∃ m, i.operand.byte? s = some m ∧
        AnswersNext i s { s with a := m, n := m.msb, z := m == 0#8 }) ∧
    (i.mnemonic = .ldx →
      i.row ∈ [(.im, 0xA2#8, 2), (.zp, 0xA6#8, 3), (.zpy, 0xB6#8, 4), (.abs, 0xAE#8, 4),
       (.absy, 0xBE#8, 4)] ∧
      ∃ m, i.operand.byte? s = some m ∧
        AnswersNext i s { s with x := m, n := m.msb, z := m == 0#8 }) ∧
    (i.mnemonic = .ldy →
      i.row ∈ [(.im, 0xA0#8, 2), (.zp, 0xA4#8, 3), (.zpx, 0xB4#8, 4), (.abs, 0xAC#8, 4),
       (.absx, 0xBC#8, 4)] ∧
      ∃ m, i.operand.byte? s = some m ∧
        AnswersNext i s { s with y := m, n := m.msb, z := m == 0#8 })

/-- `45_load_store_transfer.md` R204 to R206. The effective address is the one the meaning uses,
`MemOperand.ea`. -/
def Obligations.StoreResults : Prop :=
  ∀ (i : Instr) (s : State),
    (i.mnemonic = .sta →
      i.row ∈ [(.zp, 0x85#8, 3), (.zpx, 0x95#8, 4), (.abs, 0x8D#8, 4), (.absx, 0x9D#8, 5),
       (.absy, 0x99#8, 5), (.indx, 0x81#8, 6), (.indy, 0x91#8, 6)] ∧ i.penalty s = 0 ∧
      ∃ o, i.operand = .mem o ∧
        AnswersStoring i s s fun adr => if adr = o.ea s then s.a else s.load adr) ∧
    (i.mnemonic = .stx →
      i.row ∈ [(.zp, 0x86#8, 3), (.zpy, 0x96#8, 4), (.abs, 0x8E#8, 4)] ∧ i.penalty s = 0 ∧
      ∃ o, i.operand = .mem o ∧
        AnswersStoring i s s fun adr => if adr = o.ea s then s.x else s.load adr) ∧
    (i.mnemonic = .sty →
      i.row ∈ [(.zp, 0x84#8, 3), (.zpx, 0x94#8, 4), (.abs, 0x8C#8, 4)] ∧ i.penalty s = 0 ∧
      ∃ o, i.operand = .mem o ∧
        AnswersStoring i s s fun adr => if adr = o.ea s then s.y else s.load adr)

/-- `45_load_store_transfer.md` R207 to R212. -/
def Obligations.TransferResults : Prop :=
  ∀ s : State,
    (Instr.tax.row = (.imp, 0xAA#8, 2) ∧
      AnswersNext .tax s { s with x := s.a, n := s.a.msb, z := s.a == 0#8 }) ∧
    (Instr.tay.row = (.imp, 0xA8#8, 2) ∧
      AnswersNext .tay s { s with y := s.a, n := s.a.msb, z := s.a == 0#8 }) ∧
    (Instr.txa.row = (.imp, 0x8A#8, 2) ∧
      AnswersNext .txa s { s with a := s.x, n := s.x.msb, z := s.x == 0#8 }) ∧
    (Instr.tya.row = (.imp, 0x98#8, 2) ∧
      AnswersNext .tya s { s with a := s.y, n := s.y.msb, z := s.y == 0#8 }) ∧
    (Instr.tsx.row = (.imp, 0xBA#8, 2) ∧
      AnswersNext .tsx s { s with x := s.sp, n := s.sp.msb, z := s.sp == 0#8 }) ∧
    (Instr.txs.row = (.imp, 0x9A#8, 2) ∧ AnswersNext .txs s { s with sp := s.x })

/-- `46_logic_incdec_flags_nop.md` R221 to R223. -/
def Obligations.LogicResults : Prop :=
  ∀ (i : Instr) (s : State),
    (i.mnemonic = .and →
      i.row ∈ [(.im, 0x29#8, 2), (.zp, 0x25#8, 3), (.zpx, 0x35#8, 4), (.abs, 0x2D#8, 4),
       (.absx, 0x3D#8, 4), (.absy, 0x39#8, 4), (.indx, 0x21#8, 6), (.indy, 0x31#8, 5)] ∧
      ∃ m, i.operand.byte? s = some m ∧ AnswersNext i s
        { s with a := s.a &&& m, n := (s.a &&& m).msb, z := (s.a &&& m) == 0#8 }) ∧
    (i.mnemonic = .ora →
      i.row ∈ [(.im, 0x09#8, 2), (.zp, 0x05#8, 3), (.zpx, 0x15#8, 4), (.abs, 0x0D#8, 4),
       (.absx, 0x1D#8, 4), (.absy, 0x19#8, 4), (.indx, 0x01#8, 6), (.indy, 0x11#8, 5)] ∧
      ∃ m, i.operand.byte? s = some m ∧ AnswersNext i s
        { s with a := s.a ||| m, n := (s.a ||| m).msb, z := (s.a ||| m) == 0#8 }) ∧
    (i.mnemonic = .eor →
      i.row ∈ [(.im, 0x49#8, 2), (.zp, 0x45#8, 3), (.zpx, 0x55#8, 4), (.abs, 0x4D#8, 4),
       (.absx, 0x5D#8, 4), (.absy, 0x59#8, 4), (.indx, 0x41#8, 6), (.indy, 0x51#8, 5)] ∧
      ∃ m, i.operand.byte? s = some m ∧ AnswersNext i s
        { s with a := s.a ^^^ m, n := (s.a ^^^ m).msb, z := (s.a ^^^ m) == 0#8 })

/-- `46_logic_incdec_flags_nop.md` R224. -/
def Obligations.BitTestResult : Prop :=
  ∀ (i : Instr) (s : State), i.mnemonic = .bit →
    i.row ∈ [(.zp, 0x24#8, 3), (.abs, 0x2C#8, 4)] ∧
    ∃ m, i.operand.byte? s = some m ∧ AnswersNext i s
      { s with
        z := decide (s.a &&& m = 0#8)
        n := decide (128 ≤ m.toNat)
        v := decide (64 ≤ m.toNat % 128) }

/-- `46_logic_incdec_flags_nop.md` R225, R226. -/
def Obligations.MemoryIncrementResults : Prop :=
  ∀ (i : Instr) (s : State),
    (i.mnemonic = .inc →
      i.row ∈ [(.zp, 0xE6#8, 5), (.zpx, 0xF6#8, 6), (.abs, 0xEE#8, 6), (.absx, 0xFE#8, 7)] ∧
      ∃ m r, i.operand.byte? s = some m ∧ r = BitVec.ofNat 8 ((m.toNat + 1) % 256) ∧
        AnswersInPlace i s { s with n := r.msb, z := r == 0#8 } r) ∧
    (i.mnemonic = .dec →
      i.row ∈ [(.zp, 0xC6#8, 5), (.zpx, 0xD6#8, 6), (.abs, 0xCE#8, 6), (.absx, 0xDE#8, 7)] ∧
      ∃ m r, i.operand.byte? s = some m ∧ r = BitVec.ofNat 8 ((m.toNat + 255) % 256) ∧
        AnswersInPlace i s { s with n := r.msb, z := r == 0#8 } r)

/-- `46_logic_incdec_flags_nop.md` R227 to R230. -/
def Obligations.RegisterIncrementResults : Prop :=
  ∀ (s : State) (r : Byte),
    Instr.inx.row = (.imp, 0xE8#8, 2) ∧ Instr.iny.row = (.imp, 0xC8#8, 2) ∧
    Instr.dex.row = (.imp, 0xCA#8, 2) ∧ Instr.dey.row = (.imp, 0x88#8, 2) ∧
    (r = BitVec.ofNat 8 ((s.x.toNat + 1) % 256) →
      AnswersNext .inx s { s with x := r, n := r.msb, z := r == 0#8 }) ∧
    (r = BitVec.ofNat 8 ((s.y.toNat + 1) % 256) →
      AnswersNext .iny s { s with y := r, n := r.msb, z := r == 0#8 }) ∧
    (r = BitVec.ofNat 8 ((s.x.toNat + 255) % 256) →
      AnswersNext .dex s { s with x := r, n := r.msb, z := r == 0#8 }) ∧
    (r = BitVec.ofNat 8 ((s.y.toNat + 255) % 256) →
      AnswersNext .dey s { s with y := r, n := r.msb, z := r == 0#8 })

/-- `46_logic_incdec_flags_nop.md` R231 to R238. -/
def Obligations.FlagInstructionResults : Prop :=
  ∀ s : State,
    (Instr.clc.row = (.imp, 0x18#8, 2) ∧ AnswersNext .clc s { s with c := false }) ∧
    (Instr.sec.row = (.imp, 0x38#8, 2) ∧ AnswersNext .sec s { s with c := true }) ∧
    (Instr.cli.row = (.imp, 0x58#8, 2) ∧ AnswersNext .cli s { s with i := false }) ∧
    (Instr.sei.row = (.imp, 0x78#8, 2) ∧ AnswersNext .sei s { s with i := true }) ∧
    (Instr.cld.row = (.imp, 0xD8#8, 2) ∧ AnswersNext .cld s { s with d := false }) ∧
    (Instr.sed.row = (.imp, 0xF8#8, 2) ∧ AnswersNext .sed s { s with d := true }) ∧
    (Instr.clv.row = (.imp, 0xB8#8, 2) ∧ AnswersNext .clv s { s with v := false }) ∧
    (Instr.nop.row = (.imp, 0xEA#8, 2) ∧ AnswersNext .nop s s)

/-- `41_arithmetic_compare.md` R141, R142; a drawn value is left open (log 4). -/
def Obligations.AdcResult : Prop :=
  ∀ (i : Instr) (s : State), i.mnemonic = .adc →
    i.row ∈ [(.im, 0x69#8, 2), (.zp, 0x65#8, 3), (.zpx, 0x75#8, 4), (.abs, 0x6D#8, 4),
       (.absx, 0x7D#8, 4), (.absy, 0x79#8, 4), (.indx, 0x61#8, 6), (.indy, 0x71#8, 5)] ∧
    ∃ m, i.operand.byte? s = some m ∧
      ((s.d && s.config.bcdEnabled) = false →
        let sum := s.a.toNat + m.toNat + s.c.toNat
        let result : Byte := BitVec.ofNat 8 (sum % 256)
        AnswersNext i s
          { s with
            a := result
            c := decide (0xFF < sum)
            v := decide ((s.a ^^^ result) &&& (m ^^^ result) &&& 0x80#8 ≠ 0#8)
            z := decide (result = 0#8)
            n := decide (128 ≤ result.toNat) }) ∧
      ((s.d && s.config.bcdEnabled) = true → PackedBcd s.a → PackedBcd m →
        let al0 := s.a.toNat % 16 + m.toNat % 16 + s.c.toNat
        let al := if 0x0A ≤ al0 then (al0 + 0x06) % 16 + 0x10 else al0
        let t0 := s.a.toNat / 16 * 16 + m.toNat / 16 * 16 + al
        let t := if 0xA0 ≤ t0 then t0 + 0x60 else t0
        ∃ n v z k, AnswersNext i s
          { s with
            a := BitVec.ofNat 8 (t % 256), c := decide (0x100 ≤ t)
            n := n, v := v, z := z, draws := k }) ∧
      ((s.d && s.config.bcdEnabled) = true → ¬ (PackedBcd s.a ∧ PackedBcd m) →
        ∃ a c n v z k, AnswersNext i s
          { s with a := a, c := c, n := n, v := v, z := z, draws := k })

/-- `41_arithmetic_compare.md` R144, R145; a drawn value is left open (log 4). -/
def Obligations.SbcResult : Prop :=
  ∀ (i : Instr) (s : State), i.mnemonic = .sbc →
    i.row ∈ [(.im, 0xE9#8, 2), (.zp, 0xE5#8, 3), (.zpx, 0xF5#8, 4), (.abs, 0xED#8, 4),
       (.absx, 0xFD#8, 4), (.absy, 0xF9#8, 4), (.indx, 0xE1#8, 6), (.indy, 0xF1#8, 5)] ∧
    ∃ m, i.operand.byte? s = some m ∧
      ((s.d && s.config.bcdEnabled) = false →
        let mi := m ^^^ 0xFF#8
        let sum := s.a.toNat + mi.toNat + s.c.toNat
        let result : Byte := BitVec.ofNat 8 (sum % 256)
        AnswersNext i s
          { s with
            a := result
            c := decide (0xFF < sum)
            v := decide ((s.a ^^^ result) &&& (mi ^^^ result) &&& 0x80#8 ≠ 0#8)
            z := decide (result = 0#8)
            n := decide (128 ≤ result.toNat) }) ∧
      ((s.d && s.config.bcdEnabled) = true → PackedBcd s.a → PackedBcd m →
        let al0 : Int := (s.a.toNat % 16 : Nat) - (m.toNat % 16 : Nat) + s.c.toNat - 1
        let al : Int := if al0 < 0 then (al0 - 0x06) % 16 - 0x10 else al0
        let t0 : Int := (s.a.toNat / 16 * 16 : Nat) - (m.toNat / 16 * 16 : Nat) + al
        let t : Int := if t0 < 0 then t0 - 0x60 else t0
        ∃ n v z k, AnswersNext i s
          { s with
            a := BitVec.ofNat 8 (t % 256).toNat
            c := decide (0xFF < s.a.toNat + (255 - m.toNat) + s.c.toNat)
            n := n, v := v, z := z, draws := k }) ∧
      ((s.d && s.config.bcdEnabled) = true → ¬ (PackedBcd s.a ∧ PackedBcd m) →
        ∃ a c n v z k, AnswersNext i s
          { s with a := a, c := c, n := n, v := v, z := z, draws := k })

/-- The signed reading of `V` that `41_arithmetic_compare.md` R141 derives. -/
def Obligations.AdcOverflowIsSigned : Prop :=
  ∀ (i : Instr) (s : State) (m : Byte), i.mnemonic = .adc → i.operand.byte? s = some m →
    (s.d && s.config.bcdEnabled) = false →
    ∃ t, exec i s = .next t ∧
      (t.v = true ↔
        s.a.toInt + m.toInt + s.c.toNat < -128 ∨ 127 < s.a.toInt + m.toInt + s.c.toNat)

/-- The reading of `SBC` as subtraction that `41_arithmetic_compare.md` R144 derives. -/
def Obligations.SbcIsDifference : Prop :=
  ∀ (i : Instr) (s : State) (m : Byte), i.mnemonic = .sbc → i.operand.byte? s = some m →
    (s.d && s.config.bcdEnabled) = false →
    ∃ t, exec i s = .next t ∧
      (t.a.toNat : Int) = ((s.a.toNat : Int) - m.toNat - (1 - s.c.toNat)) % 256 ∧
      (t.c = true ↔ 0 ≤ (s.a.toNat : Int) - m.toNat - (1 - s.c.toNat)) ∧
      (t.v = true ↔
        s.a.toInt - m.toInt - (1 - (s.c.toNat : Int)) < -128 ∨
        127 < s.a.toInt - m.toInt - (1 - (s.c.toNat : Int)))

/-- The decimal reading that `41_arithmetic_compare.md` R142 derives of its digit algorithm. -/
def Obligations.DecimalAddIsDecimal : Prop :=
  ∀ (i : Instr) (s : State) (m : Byte), i.mnemonic = .adc → i.operand.byte? s = some m →
    s.d = true → s.config.bcdEnabled = true → PackedBcd s.a → PackedBcd m →
    ∃ t, exec i s = .next t ∧ PackedBcd t.a ∧
      decValue t.a = (decValue s.a + decValue m + s.c.toNat) % 100 ∧
      (t.c = true ↔ 100 ≤ decValue s.a + decValue m + s.c.toNat)

/-- The decimal reading that `41_arithmetic_compare.md` R145 derives of its digit algorithm. -/
def Obligations.DecimalSubtractIsDecimal : Prop :=
  ∀ (i : Instr) (s : State) (m : Byte), i.mnemonic = .sbc → i.operand.byte? s = some m →
    s.d = true → s.config.bcdEnabled = true → PackedBcd s.a → PackedBcd m →
    ∃ t, exec i s = .next t ∧ PackedBcd t.a ∧
      (decValue t.a : Int) = ((decValue s.a : Int) - decValue m - (1 - s.c.toNat)) % 100 ∧
      (t.c = true ↔ 0 ≤ (decValue s.a : Int) - decValue m - (1 - s.c.toNat))

/-- `41_arithmetic_compare.md` R146 to R148. -/
def Obligations.CompareResults : Prop :=
  ∀ (i : Instr) (s : State),
    (i.mnemonic = .cmp →
      i.row ∈ [(.im, 0xC9#8, 2), (.zp, 0xC5#8, 3), (.zpx, 0xD5#8, 4), (.abs, 0xCD#8, 4),
       (.absx, 0xDD#8, 4), (.absy, 0xD9#8, 4), (.indx, 0xC1#8, 6), (.indy, 0xD1#8, 5)] ∧
      ∃ m, i.operand.byte? s = some m ∧ AnswersNext i s
        { s with
          c := decide (m.toNat ≤ s.a.toNat)
          z := decide (s.a = m)
          n := decide (128 ≤ (s.a.toNat + 256 - m.toNat) % 256) }) ∧
    (i.mnemonic = .cpx →
      i.row ∈ [(.im, 0xE0#8, 2), (.zp, 0xE4#8, 3), (.abs, 0xEC#8, 4)] ∧
      ∃ m, i.operand.byte? s = some m ∧ AnswersNext i s
        { s with
          c := decide (m.toNat ≤ s.x.toNat)
          z := decide (s.x = m)
          n := decide (128 ≤ (s.x.toNat + 256 - m.toNat) % 256) }) ∧
    (i.mnemonic = .cpy →
      i.row ∈ [(.im, 0xC0#8, 2), (.zp, 0xC4#8, 3), (.abs, 0xCC#8, 4)] ∧
      ∃ m, i.operand.byte? s = some m ∧ AnswersNext i s
        { s with
          c := decide (m.toNat ≤ s.y.toNat)
          z := decide (s.y = m)
          n := decide (128 ≤ (s.y.toNat + 256 - m.toNat) % 256) })

/-- `42_shift_rotate.md` R151, R152. -/
def Obligations.ShiftResults : Prop :=
  ∀ (i : Instr) (s : State),
    (i.mnemonic = .asl →
      i.row ∈ [(.acc, 0x0A#8, 2), (.zp, 0x06#8, 5), (.zpx, 0x16#8, 6), (.abs, 0x0E#8, 6),
       (.absx, 0x1E#8, 7)] ∧
      ∃ w r, i.operand.byte? s = some w ∧ r = BitVec.ofNat 8 (w.toNat * 2 % 256) ∧
        AnswersInPlace i s { s with c := decide (128 ≤ w.toNat), n := r.msb, z := r == 0#8 } r) ∧
    (i.mnemonic = .lsr →
      i.row ∈ [(.acc, 0x4A#8, 2), (.zp, 0x46#8, 5), (.zpx, 0x56#8, 6), (.abs, 0x4E#8, 6),
       (.absx, 0x5E#8, 7)] ∧
      ∃ w r, i.operand.byte? s = some w ∧ r = BitVec.ofNat 8 (w.toNat / 2) ∧
        AnswersInPlace i s { s with c := decide (w.toNat % 2 = 1), n := r.msb, z := r == 0#8 } r)

/-- `42_shift_rotate.md` R153, R154. -/
def Obligations.RotateResults : Prop :=
  ∀ (i : Instr) (s : State),
    (i.mnemonic = .rol →
      i.row ∈ [(.acc, 0x2A#8, 2), (.zp, 0x26#8, 5), (.zpx, 0x36#8, 6), (.abs, 0x2E#8, 6),
       (.absx, 0x3E#8, 7)] ∧
      ∃ w r, i.operand.byte? s = some w ∧ r = BitVec.ofNat 8 ((w.toNat * 2 + s.c.toNat) % 256) ∧
        AnswersInPlace i s { s with c := decide (128 ≤ w.toNat), n := r.msb, z := r == 0#8 } r) ∧
    (i.mnemonic = .ror →
      i.row ∈ [(.acc, 0x6A#8, 2), (.zp, 0x66#8, 5), (.zpx, 0x76#8, 6), (.abs, 0x6E#8, 6),
       (.absx, 0x7E#8, 7)] ∧
      ∃ w r, i.operand.byte? s = some w ∧ r = BitVec.ofNat 8 (w.toNat / 2 + 128 * s.c.toNat) ∧
        AnswersInPlace i s { s with c := decide (w.toNat % 2 = 1), n := r.msb, z := r == 0#8 } r)

/-- Both are nine-bit rotations of `C` and `A` (`42_shift_rotate.md` R153, R154). -/
def Obligations.RotatesAreInverse : Prop :=
  ∀ s : State,
    (∃ t u, exec .rolAcc s = .next t ∧ exec .rorAcc t = .next u ∧ u.a = s.a ∧ u.c = s.c) ∧
    (∃ t u, exec .rorAcc s = .next t ∧ exec .rolAcc t = .next u ∧ u.a = s.a ∧ u.c = s.c)

/-- `43_branches_jumps.md` R160 to R168, with mode `REL`, `40_addressing_modes.md` R132 (2, 3 or 4
cycles, conflict C1). -/
def Obligations.BranchResults : Prop :=
  ∀ (i : Instr) (s : State) (op : Byte) (cond : Bool),
    (i.mnemonic, op, cond) ∈
      [(Mnemonic.bpl, 0x10#8, decide (s.n = false)), (.bmi, 0x30#8, decide (s.n = true)),
       (.bvc, 0x50#8, decide (s.v = false)), (.bvs, 0x70#8, decide (s.v = true)),
       (.bcc, 0x90#8, decide (s.c = false)), (.bcs, 0xB0#8, decide (s.c = true)),
       (.bne, 0xD0#8, decide (s.z = false)), (.beq, 0xF0#8, decide (s.z = true))] →
    i.row = (.rel, op, 2) ∧
    ∃ off, i.operand = .rel off ∧
      let target : Word := s.pc + off.signExtend 16
      let accesses := [rd s s.pc] ++
        if hi target = hi s.pc then [] else [rd s (mkWord (hi s.pc) (lo target))]
      exec i s = .next
        (if cond then
          { s with
            pc := target, cycles := s.cycles + accesses.length, bus := s.bus ++ accesses }
        else s)

/-- `43_branches_jumps.md` R169, R170 and mode `ABS_IND`, `40_addressing_modes.md` R129. -/
def Obligations.JumpResults : Prop :=
  ∀ (s : State) (w : Word),
    (Instr.jmpAbs w).row = (.abs, 0x4C#8, 3) ∧ (Instr.jmpAbsInd w).row = (.absInd, 0x6C#8, 5) ∧
    exec (.jmpAbs w) s = .next { s with pc := w } ∧
    exec (.jmpAbsInd w) s = .next
      { s with
        pc := mkWord (s.load (mkWord (hi w) (lo w + 1#8))) (s.load w)
        cycles := s.cycles + 2
        bus := s.bus ++ [rd s w, rd s (mkWord (hi w) (lo w + 1#8))] }

/-- `44_stack_subroutine_interrupt.md` R181, R182. -/
def Obligations.PushResults : Prop :=
  ∀ s : State,
    Instr.pha.row = (.imp, 0x48#8, 3) ∧ Instr.php.row = (.imp, 0x08#8, 3) ∧
    (stackAddr s.sp).toNat = 0x0100 + s.sp.toNat ∧
    (∃ t, exec .pha s = .next t ∧
      t = { s with
        sp := s.sp - 1#8, mem := t.mem, cycles := s.cycles + 2
        bus := s.bus ++ [rd s s.pc, wr (stackAddr s.sp) s.a] } ∧
      ∀ adr, t.load adr = if adr = stackAddr s.sp then s.a else s.load adr) ∧
    ∃ t p, exec .php s = .next t ∧
      p = BitVec.ofNat 8 (s.n.toNat * 128 + s.v.toNat * 64 + 32 + 16 + s.d.toNat * 8
        + s.i.toNat * 4 + s.z.toNat * 2 + s.c.toNat) ∧
      t = { s with
        sp := s.sp - 1#8, mem := t.mem, cycles := s.cycles + 2
        bus := s.bus ++ [rd s s.pc, wr (stackAddr s.sp) p] } ∧
      ∀ adr, t.load adr = if adr = stackAddr s.sp then p else s.load adr

/-- `44_stack_subroutine_interrupt.md` R183, R184. -/
def Obligations.PullResults : Prop :=
  ∀ (s : State) (p : Byte), p = s.load (stackAddr (s.sp + 1#8)) →
    let accesses := [rd s s.pc, rd s (stackAddr s.sp), rd s (stackAddr (s.sp + 1#8))]
    Instr.pla.row = (.imp, 0x68#8, 4) ∧ Instr.plp.row = (.imp, 0x28#8, 4) ∧
    exec .pla s = .next
      { s with
        a := p, n := p.msb, z := p == 0#8
        sp := s.sp + 1#8, cycles := s.cycles + 3, bus := s.bus ++ accesses } ∧
    exec .plp s = .next
      { s with
        n := p.getLsbD 7, v := p.getLsbD 6, d := p.getLsbD 3
        i := p.getLsbD 2, z := p.getLsbD 1, c := p.getLsbD 0
        sp := s.sp + 1#8, cycles := s.cycles + 3, bus := s.bus ++ accesses }

/-- `44_stack_subroutine_interrupt.md` R185, in the order of decision D17. -/
def Obligations.JsrResult : Prop :=
  ∀ (s : State) (target : Word),
    (Instr.jsr target).row = (.abs, 0x20#8, 6) ∧
    ∃ t, exec (.jsr target) s = .next t ∧
      t = { s with
        pc := target, sp := s.sp - 2#8, mem := t.mem, cycles := s.cycles + 3
        bus := s.bus ++ [rd s (stackAddr s.sp), wr (stackAddr s.sp) (hi (s.pc - 1#16)),
          wr (stackAddr (s.sp - 1#8)) (lo (s.pc - 1#16))] } ∧
      ∀ adr, t.load adr =
        if adr = stackAddr s.sp then hi (s.pc - 1#16)
        else if adr = stackAddr (s.sp - 1#8) then lo (s.pc - 1#16)
        else s.load adr

/-- `44_stack_subroutine_interrupt.md` R186. -/
def Obligations.RtsResult : Prop :=
  ∀ (s : State) (ret : Word),
    ret = mkWord (s.load (stackAddr (s.sp + 2#8))) (s.load (stackAddr (s.sp + 1#8))) →
    Instr.rts.row = (.imp, 0x60#8, 6) ∧
    exec .rts s = .next
      { s with
        pc := ret + 1#16, sp := s.sp + 2#8, cycles := s.cycles + 5
        bus := s.bus ++ [rd s s.pc, rd s (stackAddr s.sp), rd s (stackAddr (s.sp + 1#8)),
          rd s (stackAddr (s.sp + 2#8)), rd s ret] }

/-- The call and return law of `44_stack_subroutine_interrupt.md` R189 (here `s.pc` is the address
after the `JSR`). -/
def Obligations.CallReturnRoundTrip : Prop :=
  ∀ (s t u : State) (target : Word), exec (.jsr target) s = .next t → u.sp = t.sp →
    u.load (stackAddr s.sp) = t.load (stackAddr s.sp) →
    u.load (stackAddr (s.sp - 1#8)) = t.load (stackAddr (s.sp - 1#8)) →
    ∃ r, exec .rts u = .next r ∧ r.pc = s.pc ∧ r.sp = s.sp

/-- `44_stack_subroutine_interrupt.md` R187 (decisions D6, D7, D26). -/
def Obligations.BrkResult : Prop :=
  ∀ s : State,
    Instr.brk.row = (.imp, 0x00#8, 7) ∧
    ∃ t p, exec .brk s = .next t ∧
      p = BitVec.ofNat 8 (s.n.toNat * 128 + s.v.toNat * 64 + 32 + 16 + s.d.toNat * 8
        + s.i.toNat * 4 + s.z.toNat * 2 + s.c.toNat) ∧
      EntersInterrupt s t (s.pc + 1#16) p 0xFFFE#16 ∧
      t.halt = some (.brk (s.pc - 1#16)) ∧ t.nmiLatch = s.nmiLatch ∧
      t.cycles = s.cycles + 6 ∧
      t.bus = s.bus ++ [rd s s.pc, wr (stackAddr s.sp) (hi (s.pc + 1#16)),
        wr (stackAddr (s.sp - 1#8)) (lo (s.pc + 1#16)), wr (stackAddr (s.sp - 2#8)) p,
        rd s 0xFFFE#16, rd s 0xFFFF#16]

/-- `44_stack_subroutine_interrupt.md` R188. -/
def Obligations.RtiResult : Prop :=
  ∀ (s : State) (p : Byte), p = s.load (stackAddr (s.sp + 1#8)) →
    Instr.rti.row = (.imp, 0x40#8, 6) ∧
    exec .rti s = .next
      { s with
        n := p.getLsbD 7, v := p.getLsbD 6, d := p.getLsbD 3
        i := p.getLsbD 2, z := p.getLsbD 1, c := p.getLsbD 0
        pc := mkWord (s.load (stackAddr (s.sp + 3#8))) (s.load (stackAddr (s.sp + 2#8)))
        sp := s.sp + 3#8, cycles := s.cycles + 5
        bus := s.bus ++ [rd s s.pc, rd s (stackAddr s.sp), rd s (stackAddr (s.sp + 1#8)),
          rd s (stackAddr (s.sp + 2#8)), rd s (stackAddr (s.sp + 3#8))] }

/-- `44_stack_subroutine_interrupt.md` R188 and `60_exceptions.md` R260. -/
def Obligations.BreakReturnRoundTrip : Prop :=
  ∀ s t u : State, exec .brk s = .next t → u.sp = t.sp →
    (∀ k : Byte, k.toNat < 3 → u.load (stackAddr (s.sp - k)) = t.load (stackAddr (s.sp - k))) →
    ∃ r, exec .rti u = .next r ∧ r.pc = s.pc + 1#16 ∧ r.sp = s.sp ∧
      r.n = s.n ∧ r.v = s.v ∧ r.d = s.d ∧ r.i = s.i ∧ r.z = s.z ∧ r.c = s.c

/-- "A flag keeps its value across every instruction not listed", `10_state.md` R32. -/
def Obligations.FlagsKeptByOthers : Prop :=
  ∀ (i : Instr) (s t : State), exec i s = .next t →
    (i.mnemonic ∉ writersOfN → t.n = s.n) ∧ (i.mnemonic ∉ writersOfV → t.v = s.v) ∧
    (i.mnemonic ∉ writersOfD → t.d = s.d) ∧ (i.mnemonic ∉ writersOfI → t.i = s.i) ∧
    (i.mnemonic ∉ writersOfZ → t.z = s.z) ∧ (i.mnemonic ∉ writersOfC → t.c = s.c)

/-- The writers that `10_state.md` R20 to R24 list; `PC` by R28; the halt latch by R37; the request
inputs by `60_exceptions.md` R262, R263, which give no instruction as a writer. The last clause is
about the model's own counter of free values, a DESIGN CHOICE (log 4). -/
def Obligations.RegistersKeptByOthers : Prop :=
  ∀ (i : Instr) (s t : State), exec i s = .next t →
    (i.mnemonic ∉ [.lda, .pla, .txa, .tya, .adc, .sbc, .and, .ora, .eor] →
      i.operand ≠ .acc → t.a = s.a) ∧
    (i.mnemonic ∉ [.ldx, .tax, .tsx, .inx, .dex] → t.x = s.x) ∧
    (i.mnemonic ∉ [.ldy, .tay, .iny, .dey] → t.y = s.y) ∧
    (i.mnemonic ∉ [.txs, .pha, .php, .pla, .plp, .jsr, .rts, .brk, .rti] → t.sp = s.sp) ∧
    (i.mnemonic ∉ [.bpl, .bmi, .bvc, .bvs, .bcc, .bcs, .bne, .beq, .jmp, .jsr, .rts, .brk, .rti] →
      t.pc = s.pc) ∧
    (i.mnemonic ≠ .brk → t.halt = s.halt) ∧
    t.nmiLatch = s.nmiLatch ∧ t.irqLine = s.irqLine ∧
    (i.mnemonic ∉ [.adc, .sbc] → t.draws = s.draws)

/-- Only `MemWrite` changes memory, and only these make one (`00_scope.md` R10, `10_state.md` R25,
`45_load_store_transfer.md` R200). -/
def Obligations.MemoryKeptByOthers : Prop :=
  ∀ (i : Instr) (s t : State), i.accessKind ≠ .write → i.accessKind ≠ .rmw →
    i.mnemonic ∉ [.pha, .php, .jsr, .brk] → exec i s = .next t → t.mem = s.mem

/-- "The stack occupies addresses `0x0100` to `0x01FF` and nothing else", `10_state.md` R24; `SP`
wraps, R26. -/
def Obligations.PushesStayOnStackPage : Prop :=
  ∀ (i : Instr) (s t : State), i.mnemonic ∈ [.pha, .php, .jsr, .brk] → exec i s = .next t →
    ∀ adr : Word, adr.toNat < 0x0100 ∨ 0x01FF < adr.toNat → t.load adr = s.load adr

end
end

