-- ==== Sys2Proof/Laws/Decode.lean ====
section
/-! SUPPORT. What the decoder answers for each opcode byte written out from `30_encoding.md` R98, for all
operand bytes and whatever follows. -/

namespace Sys2Proof.Laws

open Sys2Proof.Machine (mkWord hi lo)

/-- A word is its high byte followed by its low byte. -/
@[simp] theorem mkWord_hi_lo (w : Word) : mkWord (hi w) (lo w) = w := by
  unfold mkWord hi lo
  apply BitVec.eq_of_getLsbD_eq
  intro k hk
  simp only [BitVec.getLsbD_append, BitVec.getLsbD_extractLsb']
  by_cases h : k < 8
  · simp [h]
  · simp [h, show k - 8 < 8 by omega, show 8 + (k - 8) = k by omega]

@[simp] theorem hi_mkWord (h l : Byte) : hi (mkWord h l) = h := by
  unfold mkWord hi
  apply BitVec.eq_of_getLsbD_eq
  intro k hk
  simp only [BitVec.getLsbD_append, BitVec.getLsbD_extractLsb']
  simp [hk]

@[simp] theorem lo_mkWord (h l : Byte) : lo (mkWord h l) = l := by
  unfold mkWord lo
  apply BitVec.eq_of_getLsbD_eq
  intro k hk
  simp only [BitVec.getLsbD_append, BitVec.getLsbD_extractLsb']
  simp [hk]

section
variable (l h : Byte) (rest : List Byte)

@[simp] theorem decode_adcIm : decode (0x69#8 :: l :: rest) = .ok (.adcIm l, rest) := rfl
@[simp] theorem decode_adcZp : decode (0x65#8 :: l :: rest) = .ok (.adcZp l, rest) := rfl
@[simp] theorem decode_adcZpx : decode (0x75#8 :: l :: rest) = .ok (.adcZpx l, rest) := rfl
@[simp] theorem decode_adcAbs :
    decode (0x6D#8 :: l :: h :: rest) = .ok (.adcAbs (mkWord h l), rest) := rfl
@[simp] theorem decode_adcAbsx :
    decode (0x7D#8 :: l :: h :: rest) = .ok (.adcAbsx (mkWord h l), rest) := rfl
@[simp] theorem decode_adcAbsy :
    decode (0x79#8 :: l :: h :: rest) = .ok (.adcAbsy (mkWord h l), rest) := rfl
@[simp] theorem decode_adcIndx : decode (0x61#8 :: l :: rest) = .ok (.adcIndx l, rest) := rfl
@[simp] theorem decode_adcIndy : decode (0x71#8 :: l :: rest) = .ok (.adcIndy l, rest) := rfl
@[simp] theorem decode_sbcIm : decode (0xE9#8 :: l :: rest) = .ok (.sbcIm l, rest) := rfl
@[simp] theorem decode_sbcZp : decode (0xE5#8 :: l :: rest) = .ok (.sbcZp l, rest) := rfl
@[simp] theorem decode_sbcZpx : decode (0xF5#8 :: l :: rest) = .ok (.sbcZpx l, rest) := rfl
@[simp] theorem decode_sbcAbs :
    decode (0xED#8 :: l :: h :: rest) = .ok (.sbcAbs (mkWord h l), rest) := rfl
@[simp] theorem decode_sbcAbsx :
    decode (0xFD#8 :: l :: h :: rest) = .ok (.sbcAbsx (mkWord h l), rest) := rfl
@[simp] theorem decode_sbcAbsy :
    decode (0xF9#8 :: l :: h :: rest) = .ok (.sbcAbsy (mkWord h l), rest) := rfl
@[simp] theorem decode_sbcIndx : decode (0xE1#8 :: l :: rest) = .ok (.sbcIndx l, rest) := rfl
@[simp] theorem decode_sbcIndy : decode (0xF1#8 :: l :: rest) = .ok (.sbcIndy l, rest) := rfl
@[simp] theorem decode_cmpIm : decode (0xC9#8 :: l :: rest) = .ok (.cmpIm l, rest) := rfl
@[simp] theorem decode_cmpZp : decode (0xC5#8 :: l :: rest) = .ok (.cmpZp l, rest) := rfl
@[simp] theorem decode_cmpZpx : decode (0xD5#8 :: l :: rest) = .ok (.cmpZpx l, rest) := rfl
@[simp] theorem decode_cmpAbs :
    decode (0xCD#8 :: l :: h :: rest) = .ok (.cmpAbs (mkWord h l), rest) := rfl
@[simp] theorem decode_cmpAbsx :
    decode (0xDD#8 :: l :: h :: rest) = .ok (.cmpAbsx (mkWord h l), rest) := rfl
@[simp] theorem decode_cmpAbsy :
    decode (0xD9#8 :: l :: h :: rest) = .ok (.cmpAbsy (mkWord h l), rest) := rfl
@[simp] theorem decode_cmpIndx : decode (0xC1#8 :: l :: rest) = .ok (.cmpIndx l, rest) := rfl
@[simp] theorem decode_cmpIndy : decode (0xD1#8 :: l :: rest) = .ok (.cmpIndy l, rest) := rfl
@[simp] theorem decode_cpxIm : decode (0xE0#8 :: l :: rest) = .ok (.cpxIm l, rest) := rfl
@[simp] theorem decode_cpxZp : decode (0xE4#8 :: l :: rest) = .ok (.cpxZp l, rest) := rfl
@[simp] theorem decode_cpxAbs :
    decode (0xEC#8 :: l :: h :: rest) = .ok (.cpxAbs (mkWord h l), rest) := rfl
@[simp] theorem decode_cpyIm : decode (0xC0#8 :: l :: rest) = .ok (.cpyIm l, rest) := rfl
@[simp] theorem decode_cpyZp : decode (0xC4#8 :: l :: rest) = .ok (.cpyZp l, rest) := rfl
@[simp] theorem decode_cpyAbs :
    decode (0xCC#8 :: l :: h :: rest) = .ok (.cpyAbs (mkWord h l), rest) := rfl
@[simp] theorem decode_aslAcc : decode (0x0A#8 :: rest) = .ok (.aslAcc, rest) := rfl
@[simp] theorem decode_aslZp : decode (0x06#8 :: l :: rest) = .ok (.aslZp l, rest) := rfl
@[simp] theorem decode_aslZpx : decode (0x16#8 :: l :: rest) = .ok (.aslZpx l, rest) := rfl
@[simp] theorem decode_aslAbs :
    decode (0x0E#8 :: l :: h :: rest) = .ok (.aslAbs (mkWord h l), rest) := rfl
@[simp] theorem decode_aslAbsx :
    decode (0x1E#8 :: l :: h :: rest) = .ok (.aslAbsx (mkWord h l), rest) := rfl
@[simp] theorem decode_lsrAcc : decode (0x4A#8 :: rest) = .ok (.lsrAcc, rest) := rfl
@[simp] theorem decode_lsrZp : decode (0x46#8 :: l :: rest) = .ok (.lsrZp l, rest) := rfl
@[simp] theorem decode_lsrZpx : decode (0x56#8 :: l :: rest) = .ok (.lsrZpx l, rest) := rfl
@[simp] theorem decode_lsrAbs :
    decode (0x4E#8 :: l :: h :: rest) = .ok (.lsrAbs (mkWord h l), rest) := rfl
@[simp] theorem decode_lsrAbsx :
    decode (0x5E#8 :: l :: h :: rest) = .ok (.lsrAbsx (mkWord h l), rest) := rfl
@[simp] theorem decode_rolAcc : decode (0x2A#8 :: rest) = .ok (.rolAcc, rest) := rfl
@[simp] theorem decode_rolZp : decode (0x26#8 :: l :: rest) = .ok (.rolZp l, rest) := rfl
@[simp] theorem decode_rolZpx : decode (0x36#8 :: l :: rest) = .ok (.rolZpx l, rest) := rfl
@[simp] theorem decode_rolAbs :
    decode (0x2E#8 :: l :: h :: rest) = .ok (.rolAbs (mkWord h l), rest) := rfl
@[simp] theorem decode_rolAbsx :
    decode (0x3E#8 :: l :: h :: rest) = .ok (.rolAbsx (mkWord h l), rest) := rfl
@[simp] theorem decode_rorAcc : decode (0x6A#8 :: rest) = .ok (.rorAcc, rest) := rfl
@[simp] theorem decode_rorZp : decode (0x66#8 :: l :: rest) = .ok (.rorZp l, rest) := rfl
@[simp] theorem decode_rorZpx : decode (0x76#8 :: l :: rest) = .ok (.rorZpx l, rest) := rfl
@[simp] theorem decode_rorAbs :
    decode (0x6E#8 :: l :: h :: rest) = .ok (.rorAbs (mkWord h l), rest) := rfl
@[simp] theorem decode_rorAbsx :
    decode (0x7E#8 :: l :: h :: rest) = .ok (.rorAbsx (mkWord h l), rest) := rfl
@[simp] theorem decode_bpl : decode (0x10#8 :: l :: rest) = .ok (.bpl l, rest) := rfl
@[simp] theorem decode_bmi : decode (0x30#8 :: l :: rest) = .ok (.bmi l, rest) := rfl
@[simp] theorem decode_bvc : decode (0x50#8 :: l :: rest) = .ok (.bvc l, rest) := rfl
@[simp] theorem decode_bvs : decode (0x70#8 :: l :: rest) = .ok (.bvs l, rest) := rfl
@[simp] theorem decode_bcc : decode (0x90#8 :: l :: rest) = .ok (.bcc l, rest) := rfl
@[simp] theorem decode_bcs : decode (0xB0#8 :: l :: rest) = .ok (.bcs l, rest) := rfl
@[simp] theorem decode_bne : decode (0xD0#8 :: l :: rest) = .ok (.bne l, rest) := rfl
@[simp] theorem decode_beq : decode (0xF0#8 :: l :: rest) = .ok (.beq l, rest) := rfl
@[simp] theorem decode_jmpAbs :
    decode (0x4C#8 :: l :: h :: rest) = .ok (.jmpAbs (mkWord h l), rest) := rfl
@[simp] theorem decode_jmpAbsInd :
    decode (0x6C#8 :: l :: h :: rest) = .ok (.jmpAbsInd (mkWord h l), rest) := rfl
@[simp] theorem decode_pha : decode (0x48#8 :: rest) = .ok (.pha, rest) := rfl
@[simp] theorem decode_php : decode (0x08#8 :: rest) = .ok (.php, rest) := rfl
@[simp] theorem decode_pla : decode (0x68#8 :: rest) = .ok (.pla, rest) := rfl
@[simp] theorem decode_plp : decode (0x28#8 :: rest) = .ok (.plp, rest) := rfl
@[simp] theorem decode_jsr :
    decode (0x20#8 :: l :: h :: rest) = .ok (.jsr (mkWord h l), rest) := rfl
@[simp] theorem decode_rts : decode (0x60#8 :: rest) = .ok (.rts, rest) := rfl
@[simp] theorem decode_brk : decode (0x00#8 :: rest) = .ok (.brk, rest) := rfl
@[simp] theorem decode_rti : decode (0x40#8 :: rest) = .ok (.rti, rest) := rfl
@[simp] theorem decode_ldaIm : decode (0xA9#8 :: l :: rest) = .ok (.ldaIm l, rest) := rfl
@[simp] theorem decode_ldaZp : decode (0xA5#8 :: l :: rest) = .ok (.ldaZp l, rest) := rfl
@[simp] theorem decode_ldaZpx : decode (0xB5#8 :: l :: rest) = .ok (.ldaZpx l, rest) := rfl
@[simp] theorem decode_ldaAbs :
    decode (0xAD#8 :: l :: h :: rest) = .ok (.ldaAbs (mkWord h l), rest) := rfl
@[simp] theorem decode_ldaAbsx :
    decode (0xBD#8 :: l :: h :: rest) = .ok (.ldaAbsx (mkWord h l), rest) := rfl
@[simp] theorem decode_ldaAbsy :
    decode (0xB9#8 :: l :: h :: rest) = .ok (.ldaAbsy (mkWord h l), rest) := rfl
@[simp] theorem decode_ldaIndx : decode (0xA1#8 :: l :: rest) = .ok (.ldaIndx l, rest) := rfl
@[simp] theorem decode_ldaIndy : decode (0xB1#8 :: l :: rest) = .ok (.ldaIndy l, rest) := rfl
@[simp] theorem decode_ldxIm : decode (0xA2#8 :: l :: rest) = .ok (.ldxIm l, rest) := rfl
@[simp] theorem decode_ldxZp : decode (0xA6#8 :: l :: rest) = .ok (.ldxZp l, rest) := rfl
@[simp] theorem decode_ldxZpy : decode (0xB6#8 :: l :: rest) = .ok (.ldxZpy l, rest) := rfl
@[simp] theorem decode_ldxAbs :
    decode (0xAE#8 :: l :: h :: rest) = .ok (.ldxAbs (mkWord h l), rest) := rfl
@[simp] theorem decode_ldxAbsy :
    decode (0xBE#8 :: l :: h :: rest) = .ok (.ldxAbsy (mkWord h l), rest) := rfl
@[simp] theorem decode_ldyIm : decode (0xA0#8 :: l :: rest) = .ok (.ldyIm l, rest) := rfl
@[simp] theorem decode_ldyZp : decode (0xA4#8 :: l :: rest) = .ok (.ldyZp l, rest) := rfl
@[simp] theorem decode_ldyZpx : decode (0xB4#8 :: l :: rest) = .ok (.ldyZpx l, rest) := rfl
@[simp] theorem decode_ldyAbs :
    decode (0xAC#8 :: l :: h :: rest) = .ok (.ldyAbs (mkWord h l), rest) := rfl
@[simp] theorem decode_ldyAbsx :
    decode (0xBC#8 :: l :: h :: rest) = .ok (.ldyAbsx (mkWord h l), rest) := rfl
@[simp] theorem decode_staZp : decode (0x85#8 :: l :: rest) = .ok (.staZp l, rest) := rfl
@[simp] theorem decode_staZpx : decode (0x95#8 :: l :: rest) = .ok (.staZpx l, rest) := rfl
@[simp] theorem decode_staAbs :
    decode (0x8D#8 :: l :: h :: rest) = .ok (.staAbs (mkWord h l), rest) := rfl
@[simp] theorem decode_staAbsx :
    decode (0x9D#8 :: l :: h :: rest) = .ok (.staAbsx (mkWord h l), rest) := rfl
@[simp] theorem decode_staAbsy :
    decode (0x99#8 :: l :: h :: rest) = .ok (.staAbsy (mkWord h l), rest) := rfl
@[simp] theorem decode_staIndx : decode (0x81#8 :: l :: rest) = .ok (.staIndx l, rest) := rfl
@[simp] theorem decode_staIndy : decode (0x91#8 :: l :: rest) = .ok (.staIndy l, rest) := rfl
@[simp] theorem decode_stxZp : decode (0x86#8 :: l :: rest) = .ok (.stxZp l, rest) := rfl
@[simp] theorem decode_stxZpy : decode (0x96#8 :: l :: rest) = .ok (.stxZpy l, rest) := rfl
@[simp] theorem decode_stxAbs :
    decode (0x8E#8 :: l :: h :: rest) = .ok (.stxAbs (mkWord h l), rest) := rfl
@[simp] theorem decode_styZp : decode (0x84#8 :: l :: rest) = .ok (.styZp l, rest) := rfl
@[simp] theorem decode_styZpx : decode (0x94#8 :: l :: rest) = .ok (.styZpx l, rest) := rfl
@[simp] theorem decode_styAbs :
    decode (0x8C#8 :: l :: h :: rest) = .ok (.styAbs (mkWord h l), rest) := rfl
@[simp] theorem decode_tax : decode (0xAA#8 :: rest) = .ok (.tax, rest) := rfl
@[simp] theorem decode_tay : decode (0xA8#8 :: rest) = .ok (.tay, rest) := rfl
@[simp] theorem decode_txa : decode (0x8A#8 :: rest) = .ok (.txa, rest) := rfl
@[simp] theorem decode_tya : decode (0x98#8 :: rest) = .ok (.tya, rest) := rfl
@[simp] theorem decode_tsx : decode (0xBA#8 :: rest) = .ok (.tsx, rest) := rfl
@[simp] theorem decode_txs : decode (0x9A#8 :: rest) = .ok (.txs, rest) := rfl
@[simp] theorem decode_andIm : decode (0x29#8 :: l :: rest) = .ok (.andIm l, rest) := rfl
@[simp] theorem decode_andZp : decode (0x25#8 :: l :: rest) = .ok (.andZp l, rest) := rfl
@[simp] theorem decode_andZpx : decode (0x35#8 :: l :: rest) = .ok (.andZpx l, rest) := rfl
@[simp] theorem decode_andAbs :
    decode (0x2D#8 :: l :: h :: rest) = .ok (.andAbs (mkWord h l), rest) := rfl
@[simp] theorem decode_andAbsx :
    decode (0x3D#8 :: l :: h :: rest) = .ok (.andAbsx (mkWord h l), rest) := rfl
@[simp] theorem decode_andAbsy :
    decode (0x39#8 :: l :: h :: rest) = .ok (.andAbsy (mkWord h l), rest) := rfl
@[simp] theorem decode_andIndx : decode (0x21#8 :: l :: rest) = .ok (.andIndx l, rest) := rfl
@[simp] theorem decode_andIndy : decode (0x31#8 :: l :: rest) = .ok (.andIndy l, rest) := rfl
@[simp] theorem decode_oraIm : decode (0x09#8 :: l :: rest) = .ok (.oraIm l, rest) := rfl
@[simp] theorem decode_oraZp : decode (0x05#8 :: l :: rest) = .ok (.oraZp l, rest) := rfl
@[simp] theorem decode_oraZpx : decode (0x15#8 :: l :: rest) = .ok (.oraZpx l, rest) := rfl
@[simp] theorem decode_oraAbs :
    decode (0x0D#8 :: l :: h :: rest) = .ok (.oraAbs (mkWord h l), rest) := rfl
@[simp] theorem decode_oraAbsx :
    decode (0x1D#8 :: l :: h :: rest) = .ok (.oraAbsx (mkWord h l), rest) := rfl
@[simp] theorem decode_oraAbsy :
    decode (0x19#8 :: l :: h :: rest) = .ok (.oraAbsy (mkWord h l), rest) := rfl
@[simp] theorem decode_oraIndx : decode (0x01#8 :: l :: rest) = .ok (.oraIndx l, rest) := rfl
@[simp] theorem decode_oraIndy : decode (0x11#8 :: l :: rest) = .ok (.oraIndy l, rest) := rfl
@[simp] theorem decode_eorIm : decode (0x49#8 :: l :: rest) = .ok (.eorIm l, rest) := rfl
@[simp] theorem decode_eorZp : decode (0x45#8 :: l :: rest) = .ok (.eorZp l, rest) := rfl
@[simp] theorem decode_eorZpx : decode (0x55#8 :: l :: rest) = .ok (.eorZpx l, rest) := rfl
@[simp] theorem decode_eorAbs :
    decode (0x4D#8 :: l :: h :: rest) = .ok (.eorAbs (mkWord h l), rest) := rfl
@[simp] theorem decode_eorAbsx :
    decode (0x5D#8 :: l :: h :: rest) = .ok (.eorAbsx (mkWord h l), rest) := rfl
@[simp] theorem decode_eorAbsy :
    decode (0x59#8 :: l :: h :: rest) = .ok (.eorAbsy (mkWord h l), rest) := rfl
@[simp] theorem decode_eorIndx : decode (0x41#8 :: l :: rest) = .ok (.eorIndx l, rest) := rfl
@[simp] theorem decode_eorIndy : decode (0x51#8 :: l :: rest) = .ok (.eorIndy l, rest) := rfl
@[simp] theorem decode_bitZp : decode (0x24#8 :: l :: rest) = .ok (.bitZp l, rest) := rfl
@[simp] theorem decode_bitAbs :
    decode (0x2C#8 :: l :: h :: rest) = .ok (.bitAbs (mkWord h l), rest) := rfl
@[simp] theorem decode_incZp : decode (0xE6#8 :: l :: rest) = .ok (.incZp l, rest) := rfl
@[simp] theorem decode_incZpx : decode (0xF6#8 :: l :: rest) = .ok (.incZpx l, rest) := rfl
@[simp] theorem decode_incAbs :
    decode (0xEE#8 :: l :: h :: rest) = .ok (.incAbs (mkWord h l), rest) := rfl
@[simp] theorem decode_incAbsx :
    decode (0xFE#8 :: l :: h :: rest) = .ok (.incAbsx (mkWord h l), rest) := rfl
@[simp] theorem decode_decZp : decode (0xC6#8 :: l :: rest) = .ok (.decZp l, rest) := rfl
@[simp] theorem decode_decZpx : decode (0xD6#8 :: l :: rest) = .ok (.decZpx l, rest) := rfl
@[simp] theorem decode_decAbs :
    decode (0xCE#8 :: l :: h :: rest) = .ok (.decAbs (mkWord h l), rest) := rfl
@[simp] theorem decode_decAbsx :
    decode (0xDE#8 :: l :: h :: rest) = .ok (.decAbsx (mkWord h l), rest) := rfl
@[simp] theorem decode_inx : decode (0xE8#8 :: rest) = .ok (.inx, rest) := rfl
@[simp] theorem decode_iny : decode (0xC8#8 :: rest) = .ok (.iny, rest) := rfl
@[simp] theorem decode_dex : decode (0xCA#8 :: rest) = .ok (.dex, rest) := rfl
@[simp] theorem decode_dey : decode (0x88#8 :: rest) = .ok (.dey, rest) := rfl
@[simp] theorem decode_clc : decode (0x18#8 :: rest) = .ok (.clc, rest) := rfl
@[simp] theorem decode_sec : decode (0x38#8 :: rest) = .ok (.sec, rest) := rfl
@[simp] theorem decode_cli : decode (0x58#8 :: rest) = .ok (.cli, rest) := rfl
@[simp] theorem decode_sei : decode (0x78#8 :: rest) = .ok (.sei, rest) := rfl
@[simp] theorem decode_cld : decode (0xD8#8 :: rest) = .ok (.cld, rest) := rfl
@[simp] theorem decode_sed : decode (0xF8#8 :: rest) = .ok (.sed, rest) := rfl
@[simp] theorem decode_clv : decode (0xB8#8 :: rest) = .ok (.clv, rest) := rfl
@[simp] theorem decode_nop : decode (0xEA#8 :: rest) = .ok (.nop, rest) := rfl

end

end Sys2Proof.Laws
end

