-- ==== Sys2Proof/Laws/State.lean ====
section
/-! SUPPORT. One lemma per field of State per named update, so that no proof unfolds a record update. -/

namespace Sys2Proof.Machine

/-! ### `setA` -/

section
variable (s : State) (w : Byte)

@[simp] theorem State.setA_a : (s.setA w).a = w := rfl
@[simp] theorem State.setA_x : (s.setA w).x = s.x := rfl
@[simp] theorem State.setA_y : (s.setA w).y = s.y := rfl
@[simp] theorem State.setA_sp : (s.setA w).sp = s.sp := rfl
@[simp] theorem State.setA_pc : (s.setA w).pc = s.pc := rfl
@[simp] theorem State.setA_n : (s.setA w).n = s.n := rfl
@[simp] theorem State.setA_v : (s.setA w).v = s.v := rfl
@[simp] theorem State.setA_d : (s.setA w).d = s.d := rfl
@[simp] theorem State.setA_i : (s.setA w).i = s.i := rfl
@[simp] theorem State.setA_z : (s.setA w).z = s.z := rfl
@[simp] theorem State.setA_c : (s.setA w).c = s.c := rfl
@[simp] theorem State.setA_mem : (s.setA w).mem = s.mem := rfl
@[simp] theorem State.setA_cycles : (s.setA w).cycles = s.cycles := rfl
@[simp] theorem State.setA_halt : (s.setA w).halt = s.halt := rfl
@[simp] theorem State.setA_irqLine : (s.setA w).irqLine = s.irqLine := rfl
@[simp] theorem State.setA_nmiLatch : (s.setA w).nmiLatch = s.nmiLatch := rfl
@[simp] theorem State.setA_bus : (s.setA w).bus = s.bus := rfl
@[simp] theorem State.setA_draws : (s.setA w).draws = s.draws := rfl
@[simp] theorem State.setA_config : (s.setA w).config = s.config := rfl
@[simp] theorem State.setA_load (adr : Word) : (s.setA w).load adr = s.load adr := rfl

end

/-! ### `setX` -/

section
variable (s : State) (w : Byte)

@[simp] theorem State.setX_a : (s.setX w).a = s.a := rfl
@[simp] theorem State.setX_x : (s.setX w).x = w := rfl
@[simp] theorem State.setX_y : (s.setX w).y = s.y := rfl
@[simp] theorem State.setX_sp : (s.setX w).sp = s.sp := rfl
@[simp] theorem State.setX_pc : (s.setX w).pc = s.pc := rfl
@[simp] theorem State.setX_n : (s.setX w).n = s.n := rfl
@[simp] theorem State.setX_v : (s.setX w).v = s.v := rfl
@[simp] theorem State.setX_d : (s.setX w).d = s.d := rfl
@[simp] theorem State.setX_i : (s.setX w).i = s.i := rfl
@[simp] theorem State.setX_z : (s.setX w).z = s.z := rfl
@[simp] theorem State.setX_c : (s.setX w).c = s.c := rfl
@[simp] theorem State.setX_mem : (s.setX w).mem = s.mem := rfl
@[simp] theorem State.setX_cycles : (s.setX w).cycles = s.cycles := rfl
@[simp] theorem State.setX_halt : (s.setX w).halt = s.halt := rfl
@[simp] theorem State.setX_irqLine : (s.setX w).irqLine = s.irqLine := rfl
@[simp] theorem State.setX_nmiLatch : (s.setX w).nmiLatch = s.nmiLatch := rfl
@[simp] theorem State.setX_bus : (s.setX w).bus = s.bus := rfl
@[simp] theorem State.setX_draws : (s.setX w).draws = s.draws := rfl
@[simp] theorem State.setX_config : (s.setX w).config = s.config := rfl
@[simp] theorem State.setX_load (adr : Word) : (s.setX w).load adr = s.load adr := rfl

end

/-! ### `setY` -/

section
variable (s : State) (w : Byte)

@[simp] theorem State.setY_a : (s.setY w).a = s.a := rfl
@[simp] theorem State.setY_x : (s.setY w).x = s.x := rfl
@[simp] theorem State.setY_y : (s.setY w).y = w := rfl
@[simp] theorem State.setY_sp : (s.setY w).sp = s.sp := rfl
@[simp] theorem State.setY_pc : (s.setY w).pc = s.pc := rfl
@[simp] theorem State.setY_n : (s.setY w).n = s.n := rfl
@[simp] theorem State.setY_v : (s.setY w).v = s.v := rfl
@[simp] theorem State.setY_d : (s.setY w).d = s.d := rfl
@[simp] theorem State.setY_i : (s.setY w).i = s.i := rfl
@[simp] theorem State.setY_z : (s.setY w).z = s.z := rfl
@[simp] theorem State.setY_c : (s.setY w).c = s.c := rfl
@[simp] theorem State.setY_mem : (s.setY w).mem = s.mem := rfl
@[simp] theorem State.setY_cycles : (s.setY w).cycles = s.cycles := rfl
@[simp] theorem State.setY_halt : (s.setY w).halt = s.halt := rfl
@[simp] theorem State.setY_irqLine : (s.setY w).irqLine = s.irqLine := rfl
@[simp] theorem State.setY_nmiLatch : (s.setY w).nmiLatch = s.nmiLatch := rfl
@[simp] theorem State.setY_bus : (s.setY w).bus = s.bus := rfl
@[simp] theorem State.setY_draws : (s.setY w).draws = s.draws := rfl
@[simp] theorem State.setY_config : (s.setY w).config = s.config := rfl
@[simp] theorem State.setY_load (adr : Word) : (s.setY w).load adr = s.load adr := rfl

end

/-! ### `setSp` -/

section
variable (s : State) (w : Byte)

@[simp] theorem State.setSp_a : (s.setSp w).a = s.a := rfl
@[simp] theorem State.setSp_x : (s.setSp w).x = s.x := rfl
@[simp] theorem State.setSp_y : (s.setSp w).y = s.y := rfl
@[simp] theorem State.setSp_sp : (s.setSp w).sp = w := rfl
@[simp] theorem State.setSp_pc : (s.setSp w).pc = s.pc := rfl
@[simp] theorem State.setSp_n : (s.setSp w).n = s.n := rfl
@[simp] theorem State.setSp_v : (s.setSp w).v = s.v := rfl
@[simp] theorem State.setSp_d : (s.setSp w).d = s.d := rfl
@[simp] theorem State.setSp_i : (s.setSp w).i = s.i := rfl
@[simp] theorem State.setSp_z : (s.setSp w).z = s.z := rfl
@[simp] theorem State.setSp_c : (s.setSp w).c = s.c := rfl
@[simp] theorem State.setSp_mem : (s.setSp w).mem = s.mem := rfl
@[simp] theorem State.setSp_cycles : (s.setSp w).cycles = s.cycles := rfl
@[simp] theorem State.setSp_halt : (s.setSp w).halt = s.halt := rfl
@[simp] theorem State.setSp_irqLine : (s.setSp w).irqLine = s.irqLine := rfl
@[simp] theorem State.setSp_nmiLatch : (s.setSp w).nmiLatch = s.nmiLatch := rfl
@[simp] theorem State.setSp_bus : (s.setSp w).bus = s.bus := rfl
@[simp] theorem State.setSp_draws : (s.setSp w).draws = s.draws := rfl
@[simp] theorem State.setSp_config : (s.setSp w).config = s.config := rfl
@[simp] theorem State.setSp_load (adr : Word) : (s.setSp w).load adr = s.load adr := rfl

end

/-! ### `setPc` -/

section
variable (s : State) (w : Word)

@[simp] theorem State.setPc_a : (s.setPc w).a = s.a := rfl
@[simp] theorem State.setPc_x : (s.setPc w).x = s.x := rfl
@[simp] theorem State.setPc_y : (s.setPc w).y = s.y := rfl
@[simp] theorem State.setPc_sp : (s.setPc w).sp = s.sp := rfl
@[simp] theorem State.setPc_pc : (s.setPc w).pc = w := rfl
@[simp] theorem State.setPc_n : (s.setPc w).n = s.n := rfl
@[simp] theorem State.setPc_v : (s.setPc w).v = s.v := rfl
@[simp] theorem State.setPc_d : (s.setPc w).d = s.d := rfl
@[simp] theorem State.setPc_i : (s.setPc w).i = s.i := rfl
@[simp] theorem State.setPc_z : (s.setPc w).z = s.z := rfl
@[simp] theorem State.setPc_c : (s.setPc w).c = s.c := rfl
@[simp] theorem State.setPc_mem : (s.setPc w).mem = s.mem := rfl
@[simp] theorem State.setPc_cycles : (s.setPc w).cycles = s.cycles := rfl
@[simp] theorem State.setPc_halt : (s.setPc w).halt = s.halt := rfl
@[simp] theorem State.setPc_irqLine : (s.setPc w).irqLine = s.irqLine := rfl
@[simp] theorem State.setPc_nmiLatch : (s.setPc w).nmiLatch = s.nmiLatch := rfl
@[simp] theorem State.setPc_bus : (s.setPc w).bus = s.bus := rfl
@[simp] theorem State.setPc_draws : (s.setPc w).draws = s.draws := rfl
@[simp] theorem State.setPc_config : (s.setPc w).config = s.config := rfl
@[simp] theorem State.setPc_load (adr : Word) : (s.setPc w).load adr = s.load adr := rfl

end

/-! ### `setN` -/

section
variable (s : State) (w : Bool)

@[simp] theorem State.setN_a : (s.setN w).a = s.a := rfl
@[simp] theorem State.setN_x : (s.setN w).x = s.x := rfl
@[simp] theorem State.setN_y : (s.setN w).y = s.y := rfl
@[simp] theorem State.setN_sp : (s.setN w).sp = s.sp := rfl
@[simp] theorem State.setN_pc : (s.setN w).pc = s.pc := rfl
@[simp] theorem State.setN_n : (s.setN w).n = w := rfl
@[simp] theorem State.setN_v : (s.setN w).v = s.v := rfl
@[simp] theorem State.setN_d : (s.setN w).d = s.d := rfl
@[simp] theorem State.setN_i : (s.setN w).i = s.i := rfl
@[simp] theorem State.setN_z : (s.setN w).z = s.z := rfl
@[simp] theorem State.setN_c : (s.setN w).c = s.c := rfl
@[simp] theorem State.setN_mem : (s.setN w).mem = s.mem := rfl
@[simp] theorem State.setN_cycles : (s.setN w).cycles = s.cycles := rfl
@[simp] theorem State.setN_halt : (s.setN w).halt = s.halt := rfl
@[simp] theorem State.setN_irqLine : (s.setN w).irqLine = s.irqLine := rfl
@[simp] theorem State.setN_nmiLatch : (s.setN w).nmiLatch = s.nmiLatch := rfl
@[simp] theorem State.setN_bus : (s.setN w).bus = s.bus := rfl
@[simp] theorem State.setN_draws : (s.setN w).draws = s.draws := rfl
@[simp] theorem State.setN_config : (s.setN w).config = s.config := rfl
@[simp] theorem State.setN_load (adr : Word) : (s.setN w).load adr = s.load adr := rfl

end

/-! ### `setV` -/

section
variable (s : State) (w : Bool)

@[simp] theorem State.setV_a : (s.setV w).a = s.a := rfl
@[simp] theorem State.setV_x : (s.setV w).x = s.x := rfl
@[simp] theorem State.setV_y : (s.setV w).y = s.y := rfl
@[simp] theorem State.setV_sp : (s.setV w).sp = s.sp := rfl
@[simp] theorem State.setV_pc : (s.setV w).pc = s.pc := rfl
@[simp] theorem State.setV_n : (s.setV w).n = s.n := rfl
@[simp] theorem State.setV_v : (s.setV w).v = w := rfl
@[simp] theorem State.setV_d : (s.setV w).d = s.d := rfl
@[simp] theorem State.setV_i : (s.setV w).i = s.i := rfl
@[simp] theorem State.setV_z : (s.setV w).z = s.z := rfl
@[simp] theorem State.setV_c : (s.setV w).c = s.c := rfl
@[simp] theorem State.setV_mem : (s.setV w).mem = s.mem := rfl
@[simp] theorem State.setV_cycles : (s.setV w).cycles = s.cycles := rfl
@[simp] theorem State.setV_halt : (s.setV w).halt = s.halt := rfl
@[simp] theorem State.setV_irqLine : (s.setV w).irqLine = s.irqLine := rfl
@[simp] theorem State.setV_nmiLatch : (s.setV w).nmiLatch = s.nmiLatch := rfl
@[simp] theorem State.setV_bus : (s.setV w).bus = s.bus := rfl
@[simp] theorem State.setV_draws : (s.setV w).draws = s.draws := rfl
@[simp] theorem State.setV_config : (s.setV w).config = s.config := rfl
@[simp] theorem State.setV_load (adr : Word) : (s.setV w).load adr = s.load adr := rfl

end

/-! ### `setD` -/

section
variable (s : State) (w : Bool)

@[simp] theorem State.setD_a : (s.setD w).a = s.a := rfl
@[simp] theorem State.setD_x : (s.setD w).x = s.x := rfl
@[simp] theorem State.setD_y : (s.setD w).y = s.y := rfl
@[simp] theorem State.setD_sp : (s.setD w).sp = s.sp := rfl
@[simp] theorem State.setD_pc : (s.setD w).pc = s.pc := rfl
@[simp] theorem State.setD_n : (s.setD w).n = s.n := rfl
@[simp] theorem State.setD_v : (s.setD w).v = s.v := rfl
@[simp] theorem State.setD_d : (s.setD w).d = w := rfl
@[simp] theorem State.setD_i : (s.setD w).i = s.i := rfl
@[simp] theorem State.setD_z : (s.setD w).z = s.z := rfl
@[simp] theorem State.setD_c : (s.setD w).c = s.c := rfl
@[simp] theorem State.setD_mem : (s.setD w).mem = s.mem := rfl
@[simp] theorem State.setD_cycles : (s.setD w).cycles = s.cycles := rfl
@[simp] theorem State.setD_halt : (s.setD w).halt = s.halt := rfl
@[simp] theorem State.setD_irqLine : (s.setD w).irqLine = s.irqLine := rfl
@[simp] theorem State.setD_nmiLatch : (s.setD w).nmiLatch = s.nmiLatch := rfl
@[simp] theorem State.setD_bus : (s.setD w).bus = s.bus := rfl
@[simp] theorem State.setD_draws : (s.setD w).draws = s.draws := rfl
@[simp] theorem State.setD_config : (s.setD w).config = s.config := rfl
@[simp] theorem State.setD_load (adr : Word) : (s.setD w).load adr = s.load adr := rfl

end

/-! ### `setI` -/

section
variable (s : State) (w : Bool)

@[simp] theorem State.setI_a : (s.setI w).a = s.a := rfl
@[simp] theorem State.setI_x : (s.setI w).x = s.x := rfl
@[simp] theorem State.setI_y : (s.setI w).y = s.y := rfl
@[simp] theorem State.setI_sp : (s.setI w).sp = s.sp := rfl
@[simp] theorem State.setI_pc : (s.setI w).pc = s.pc := rfl
@[simp] theorem State.setI_n : (s.setI w).n = s.n := rfl
@[simp] theorem State.setI_v : (s.setI w).v = s.v := rfl
@[simp] theorem State.setI_d : (s.setI w).d = s.d := rfl
@[simp] theorem State.setI_i : (s.setI w).i = w := rfl
@[simp] theorem State.setI_z : (s.setI w).z = s.z := rfl
@[simp] theorem State.setI_c : (s.setI w).c = s.c := rfl
@[simp] theorem State.setI_mem : (s.setI w).mem = s.mem := rfl
@[simp] theorem State.setI_cycles : (s.setI w).cycles = s.cycles := rfl
@[simp] theorem State.setI_halt : (s.setI w).halt = s.halt := rfl
@[simp] theorem State.setI_irqLine : (s.setI w).irqLine = s.irqLine := rfl
@[simp] theorem State.setI_nmiLatch : (s.setI w).nmiLatch = s.nmiLatch := rfl
@[simp] theorem State.setI_bus : (s.setI w).bus = s.bus := rfl
@[simp] theorem State.setI_draws : (s.setI w).draws = s.draws := rfl
@[simp] theorem State.setI_config : (s.setI w).config = s.config := rfl
@[simp] theorem State.setI_load (adr : Word) : (s.setI w).load adr = s.load adr := rfl

end

/-! ### `setZ` -/

section
variable (s : State) (w : Bool)

@[simp] theorem State.setZ_a : (s.setZ w).a = s.a := rfl
@[simp] theorem State.setZ_x : (s.setZ w).x = s.x := rfl
@[simp] theorem State.setZ_y : (s.setZ w).y = s.y := rfl
@[simp] theorem State.setZ_sp : (s.setZ w).sp = s.sp := rfl
@[simp] theorem State.setZ_pc : (s.setZ w).pc = s.pc := rfl
@[simp] theorem State.setZ_n : (s.setZ w).n = s.n := rfl
@[simp] theorem State.setZ_v : (s.setZ w).v = s.v := rfl
@[simp] theorem State.setZ_d : (s.setZ w).d = s.d := rfl
@[simp] theorem State.setZ_i : (s.setZ w).i = s.i := rfl
@[simp] theorem State.setZ_z : (s.setZ w).z = w := rfl
@[simp] theorem State.setZ_c : (s.setZ w).c = s.c := rfl
@[simp] theorem State.setZ_mem : (s.setZ w).mem = s.mem := rfl
@[simp] theorem State.setZ_cycles : (s.setZ w).cycles = s.cycles := rfl
@[simp] theorem State.setZ_halt : (s.setZ w).halt = s.halt := rfl
@[simp] theorem State.setZ_irqLine : (s.setZ w).irqLine = s.irqLine := rfl
@[simp] theorem State.setZ_nmiLatch : (s.setZ w).nmiLatch = s.nmiLatch := rfl
@[simp] theorem State.setZ_bus : (s.setZ w).bus = s.bus := rfl
@[simp] theorem State.setZ_draws : (s.setZ w).draws = s.draws := rfl
@[simp] theorem State.setZ_config : (s.setZ w).config = s.config := rfl
@[simp] theorem State.setZ_load (adr : Word) : (s.setZ w).load adr = s.load adr := rfl

end

/-! ### `setC` -/

section
variable (s : State) (w : Bool)

@[simp] theorem State.setC_a : (s.setC w).a = s.a := rfl
@[simp] theorem State.setC_x : (s.setC w).x = s.x := rfl
@[simp] theorem State.setC_y : (s.setC w).y = s.y := rfl
@[simp] theorem State.setC_sp : (s.setC w).sp = s.sp := rfl
@[simp] theorem State.setC_pc : (s.setC w).pc = s.pc := rfl
@[simp] theorem State.setC_n : (s.setC w).n = s.n := rfl
@[simp] theorem State.setC_v : (s.setC w).v = s.v := rfl
@[simp] theorem State.setC_d : (s.setC w).d = s.d := rfl
@[simp] theorem State.setC_i : (s.setC w).i = s.i := rfl
@[simp] theorem State.setC_z : (s.setC w).z = s.z := rfl
@[simp] theorem State.setC_c : (s.setC w).c = w := rfl
@[simp] theorem State.setC_mem : (s.setC w).mem = s.mem := rfl
@[simp] theorem State.setC_cycles : (s.setC w).cycles = s.cycles := rfl
@[simp] theorem State.setC_halt : (s.setC w).halt = s.halt := rfl
@[simp] theorem State.setC_irqLine : (s.setC w).irqLine = s.irqLine := rfl
@[simp] theorem State.setC_nmiLatch : (s.setC w).nmiLatch = s.nmiLatch := rfl
@[simp] theorem State.setC_bus : (s.setC w).bus = s.bus := rfl
@[simp] theorem State.setC_draws : (s.setC w).draws = s.draws := rfl
@[simp] theorem State.setC_config : (s.setC w).config = s.config := rfl
@[simp] theorem State.setC_load (adr : Word) : (s.setC w).load adr = s.load adr := rfl

end

/-! ### `setHalt` -/

section
variable (s : State) (w : Option HaltReason)

@[simp] theorem State.setHalt_a : (s.setHalt w).a = s.a := rfl
@[simp] theorem State.setHalt_x : (s.setHalt w).x = s.x := rfl
@[simp] theorem State.setHalt_y : (s.setHalt w).y = s.y := rfl
@[simp] theorem State.setHalt_sp : (s.setHalt w).sp = s.sp := rfl
@[simp] theorem State.setHalt_pc : (s.setHalt w).pc = s.pc := rfl
@[simp] theorem State.setHalt_n : (s.setHalt w).n = s.n := rfl
@[simp] theorem State.setHalt_v : (s.setHalt w).v = s.v := rfl
@[simp] theorem State.setHalt_d : (s.setHalt w).d = s.d := rfl
@[simp] theorem State.setHalt_i : (s.setHalt w).i = s.i := rfl
@[simp] theorem State.setHalt_z : (s.setHalt w).z = s.z := rfl
@[simp] theorem State.setHalt_c : (s.setHalt w).c = s.c := rfl
@[simp] theorem State.setHalt_mem : (s.setHalt w).mem = s.mem := rfl
@[simp] theorem State.setHalt_cycles : (s.setHalt w).cycles = s.cycles := rfl
@[simp] theorem State.setHalt_halt : (s.setHalt w).halt = w := rfl
@[simp] theorem State.setHalt_irqLine : (s.setHalt w).irqLine = s.irqLine := rfl
@[simp] theorem State.setHalt_nmiLatch : (s.setHalt w).nmiLatch = s.nmiLatch := rfl
@[simp] theorem State.setHalt_bus : (s.setHalt w).bus = s.bus := rfl
@[simp] theorem State.setHalt_draws : (s.setHalt w).draws = s.draws := rfl
@[simp] theorem State.setHalt_config : (s.setHalt w).config = s.config := rfl
@[simp] theorem State.setHalt_load (adr : Word) : (s.setHalt w).load adr = s.load adr := rfl

end

/-! ### `setNmi` -/

section
variable (s : State) (w : Bool)

@[simp] theorem State.setNmi_a : (s.setNmi w).a = s.a := rfl
@[simp] theorem State.setNmi_x : (s.setNmi w).x = s.x := rfl
@[simp] theorem State.setNmi_y : (s.setNmi w).y = s.y := rfl
@[simp] theorem State.setNmi_sp : (s.setNmi w).sp = s.sp := rfl
@[simp] theorem State.setNmi_pc : (s.setNmi w).pc = s.pc := rfl
@[simp] theorem State.setNmi_n : (s.setNmi w).n = s.n := rfl
@[simp] theorem State.setNmi_v : (s.setNmi w).v = s.v := rfl
@[simp] theorem State.setNmi_d : (s.setNmi w).d = s.d := rfl
@[simp] theorem State.setNmi_i : (s.setNmi w).i = s.i := rfl
@[simp] theorem State.setNmi_z : (s.setNmi w).z = s.z := rfl
@[simp] theorem State.setNmi_c : (s.setNmi w).c = s.c := rfl
@[simp] theorem State.setNmi_mem : (s.setNmi w).mem = s.mem := rfl
@[simp] theorem State.setNmi_cycles : (s.setNmi w).cycles = s.cycles := rfl
@[simp] theorem State.setNmi_halt : (s.setNmi w).halt = s.halt := rfl
@[simp] theorem State.setNmi_irqLine : (s.setNmi w).irqLine = s.irqLine := rfl
@[simp] theorem State.setNmi_nmiLatch : (s.setNmi w).nmiLatch = w := rfl
@[simp] theorem State.setNmi_bus : (s.setNmi w).bus = s.bus := rfl
@[simp] theorem State.setNmi_draws : (s.setNmi w).draws = s.draws := rfl
@[simp] theorem State.setNmi_config : (s.setNmi w).config = s.config := rfl
@[simp] theorem State.setNmi_load (adr : Word) : (s.setNmi w).load adr = s.load adr := rfl

end

/-! ### `setIrq` -/

section
variable (s : State) (w : Bool)

@[simp] theorem State.setIrq_a : (s.setIrq w).a = s.a := rfl
@[simp] theorem State.setIrq_x : (s.setIrq w).x = s.x := rfl
@[simp] theorem State.setIrq_y : (s.setIrq w).y = s.y := rfl
@[simp] theorem State.setIrq_sp : (s.setIrq w).sp = s.sp := rfl
@[simp] theorem State.setIrq_pc : (s.setIrq w).pc = s.pc := rfl
@[simp] theorem State.setIrq_n : (s.setIrq w).n = s.n := rfl
@[simp] theorem State.setIrq_v : (s.setIrq w).v = s.v := rfl
@[simp] theorem State.setIrq_d : (s.setIrq w).d = s.d := rfl
@[simp] theorem State.setIrq_i : (s.setIrq w).i = s.i := rfl
@[simp] theorem State.setIrq_z : (s.setIrq w).z = s.z := rfl
@[simp] theorem State.setIrq_c : (s.setIrq w).c = s.c := rfl
@[simp] theorem State.setIrq_mem : (s.setIrq w).mem = s.mem := rfl
@[simp] theorem State.setIrq_cycles : (s.setIrq w).cycles = s.cycles := rfl
@[simp] theorem State.setIrq_halt : (s.setIrq w).halt = s.halt := rfl
@[simp] theorem State.setIrq_irqLine : (s.setIrq w).irqLine = w := rfl
@[simp] theorem State.setIrq_nmiLatch : (s.setIrq w).nmiLatch = s.nmiLatch := rfl
@[simp] theorem State.setIrq_bus : (s.setIrq w).bus = s.bus := rfl
@[simp] theorem State.setIrq_draws : (s.setIrq w).draws = s.draws := rfl
@[simp] theorem State.setIrq_config : (s.setIrq w).config = s.config := rfl
@[simp] theorem State.setIrq_load (adr : Word) : (s.setIrq w).load adr = s.load adr := rfl

end

/-! ### `setNZ` -/

section
variable (s : State) (w : Byte)

@[simp] theorem State.setNZ_a : (s.setNZ w).a = s.a := rfl
@[simp] theorem State.setNZ_x : (s.setNZ w).x = s.x := rfl
@[simp] theorem State.setNZ_y : (s.setNZ w).y = s.y := rfl
@[simp] theorem State.setNZ_sp : (s.setNZ w).sp = s.sp := rfl
@[simp] theorem State.setNZ_pc : (s.setNZ w).pc = s.pc := rfl
@[simp] theorem State.setNZ_n : (s.setNZ w).n = w.msb := rfl
@[simp] theorem State.setNZ_v : (s.setNZ w).v = s.v := rfl
@[simp] theorem State.setNZ_d : (s.setNZ w).d = s.d := rfl
@[simp] theorem State.setNZ_i : (s.setNZ w).i = s.i := rfl
@[simp] theorem State.setNZ_z : (s.setNZ w).z = (w == 0#8) := rfl
@[simp] theorem State.setNZ_c : (s.setNZ w).c = s.c := rfl
@[simp] theorem State.setNZ_mem : (s.setNZ w).mem = s.mem := rfl
@[simp] theorem State.setNZ_cycles : (s.setNZ w).cycles = s.cycles := rfl
@[simp] theorem State.setNZ_halt : (s.setNZ w).halt = s.halt := rfl
@[simp] theorem State.setNZ_irqLine : (s.setNZ w).irqLine = s.irqLine := rfl
@[simp] theorem State.setNZ_nmiLatch : (s.setNZ w).nmiLatch = s.nmiLatch := rfl
@[simp] theorem State.setNZ_bus : (s.setNZ w).bus = s.bus := rfl
@[simp] theorem State.setNZ_draws : (s.setNZ w).draws = s.draws := rfl
@[simp] theorem State.setNZ_config : (s.setNZ w).config = s.config := rfl
@[simp] theorem State.setNZ_load (adr : Word) : (s.setNZ w).load adr = s.load adr := rfl

end

/-! ### `setP` -/

section
variable (s : State) (w : Byte)

@[simp] theorem State.setP_a : (s.setP w).a = s.a := rfl
@[simp] theorem State.setP_x : (s.setP w).x = s.x := rfl
@[simp] theorem State.setP_y : (s.setP w).y = s.y := rfl
@[simp] theorem State.setP_sp : (s.setP w).sp = s.sp := rfl
@[simp] theorem State.setP_pc : (s.setP w).pc = s.pc := rfl
@[simp] theorem State.setP_n : (s.setP w).n = w.getLsbD 7 := rfl
@[simp] theorem State.setP_v : (s.setP w).v = w.getLsbD 6 := rfl
@[simp] theorem State.setP_d : (s.setP w).d = w.getLsbD 3 := rfl
@[simp] theorem State.setP_i : (s.setP w).i = w.getLsbD 2 := rfl
@[simp] theorem State.setP_z : (s.setP w).z = w.getLsbD 1 := rfl
@[simp] theorem State.setP_c : (s.setP w).c = w.getLsbD 0 := rfl
@[simp] theorem State.setP_mem : (s.setP w).mem = s.mem := rfl
@[simp] theorem State.setP_cycles : (s.setP w).cycles = s.cycles := rfl
@[simp] theorem State.setP_halt : (s.setP w).halt = s.halt := rfl
@[simp] theorem State.setP_irqLine : (s.setP w).irqLine = s.irqLine := rfl
@[simp] theorem State.setP_nmiLatch : (s.setP w).nmiLatch = s.nmiLatch := rfl
@[simp] theorem State.setP_bus : (s.setP w).bus = s.bus := rfl
@[simp] theorem State.setP_draws : (s.setP w).draws = s.draws := rfl
@[simp] theorem State.setP_config : (s.setP w).config = s.config := rfl
@[simp] theorem State.setP_load (adr : Word) : (s.setP w).load adr = s.load adr := rfl

end

/-! ### `beginStep` -/

section
variable (s : State)

@[simp] theorem State.beginStep_a : (s.beginStep).a = s.a := rfl
@[simp] theorem State.beginStep_x : (s.beginStep).x = s.x := rfl
@[simp] theorem State.beginStep_y : (s.beginStep).y = s.y := rfl
@[simp] theorem State.beginStep_sp : (s.beginStep).sp = s.sp := rfl
@[simp] theorem State.beginStep_pc : (s.beginStep).pc = s.pc := rfl
@[simp] theorem State.beginStep_n : (s.beginStep).n = s.n := rfl
@[simp] theorem State.beginStep_v : (s.beginStep).v = s.v := rfl
@[simp] theorem State.beginStep_d : (s.beginStep).d = s.d := rfl
@[simp] theorem State.beginStep_i : (s.beginStep).i = s.i := rfl
@[simp] theorem State.beginStep_z : (s.beginStep).z = s.z := rfl
@[simp] theorem State.beginStep_c : (s.beginStep).c = s.c := rfl
@[simp] theorem State.beginStep_mem : (s.beginStep).mem = s.mem := rfl
@[simp] theorem State.beginStep_cycles : (s.beginStep).cycles = s.cycles := rfl
@[simp] theorem State.beginStep_halt : (s.beginStep).halt = s.halt := rfl
@[simp] theorem State.beginStep_irqLine : (s.beginStep).irqLine = s.irqLine := rfl
@[simp] theorem State.beginStep_nmiLatch : (s.beginStep).nmiLatch = s.nmiLatch := rfl
@[simp] theorem State.beginStep_bus : (s.beginStep).bus = [] := rfl
@[simp] theorem State.beginStep_draws : (s.beginStep).draws = s.draws := rfl
@[simp] theorem State.beginStep_config : (s.beginStep).config = s.config := rfl
@[simp] theorem State.beginStep_load (adr : Word) : (s.beginStep).load adr = s.load adr := rfl

end

end Sys2Proof.Machine
end

