-- ==== Sys2Proof/Laws/Flags.lean ====
section
/-! SUPPORT. What each flag computation leaves unchanged, one lemma per field, and the bits of the byte
made from `P`. -/

namespace Sys2Proof.Machine

/-! ### `adcBinary` -/

section
variable (m : Byte) (s : State)

@[simp] theorem adcBinary_x : (adcBinary m s).x = s.x := rfl
@[simp] theorem adcBinary_y : (adcBinary m s).y = s.y := rfl
@[simp] theorem adcBinary_sp : (adcBinary m s).sp = s.sp := rfl
@[simp] theorem adcBinary_pc : (adcBinary m s).pc = s.pc := rfl
@[simp] theorem adcBinary_d : (adcBinary m s).d = s.d := rfl
@[simp] theorem adcBinary_i : (adcBinary m s).i = s.i := rfl
@[simp] theorem adcBinary_mem : (adcBinary m s).mem = s.mem := rfl
@[simp] theorem adcBinary_cycles : (adcBinary m s).cycles = s.cycles := rfl
@[simp] theorem adcBinary_halt : (adcBinary m s).halt = s.halt := rfl
@[simp] theorem adcBinary_irqLine : (adcBinary m s).irqLine = s.irqLine := rfl
@[simp] theorem adcBinary_nmiLatch : (adcBinary m s).nmiLatch = s.nmiLatch := rfl
@[simp] theorem adcBinary_bus : (adcBinary m s).bus = s.bus := rfl
@[simp] theorem adcBinary_draws : (adcBinary m s).draws = s.draws := rfl
@[simp] theorem adcBinary_config : (adcBinary m s).config = s.config := rfl
@[simp] theorem adcBinary_load (adr : Word) : (adcBinary m s).load adr = s.load adr := by
  simp [State.load]

end

/-! ### `adcDecimal` -/

section
variable (m : Byte) (s : State)

@[simp] theorem adcDecimal_x : (adcDecimal m s).x = s.x := by
  unfold adcDecimal; (repeat' split) <;> rfl
@[simp] theorem adcDecimal_y : (adcDecimal m s).y = s.y := by
  unfold adcDecimal; (repeat' split) <;> rfl
@[simp] theorem adcDecimal_sp : (adcDecimal m s).sp = s.sp := by
  unfold adcDecimal; (repeat' split) <;> rfl
@[simp] theorem adcDecimal_pc : (adcDecimal m s).pc = s.pc := by
  unfold adcDecimal; (repeat' split) <;> rfl
@[simp] theorem adcDecimal_d : (adcDecimal m s).d = s.d := by
  unfold adcDecimal; (repeat' split) <;> rfl
@[simp] theorem adcDecimal_i : (adcDecimal m s).i = s.i := by
  unfold adcDecimal; (repeat' split) <;> rfl
@[simp] theorem adcDecimal_mem : (adcDecimal m s).mem = s.mem := by
  unfold adcDecimal; (repeat' split) <;> rfl
@[simp] theorem adcDecimal_cycles : (adcDecimal m s).cycles = s.cycles := by
  unfold adcDecimal; (repeat' split) <;> rfl
@[simp] theorem adcDecimal_halt : (adcDecimal m s).halt = s.halt := by
  unfold adcDecimal; (repeat' split) <;> rfl
@[simp] theorem adcDecimal_irqLine : (adcDecimal m s).irqLine = s.irqLine := by
  unfold adcDecimal; (repeat' split) <;> rfl
@[simp] theorem adcDecimal_nmiLatch : (adcDecimal m s).nmiLatch = s.nmiLatch := by
  unfold adcDecimal; (repeat' split) <;> rfl
@[simp] theorem adcDecimal_bus : (adcDecimal m s).bus = s.bus := by
  unfold adcDecimal; (repeat' split) <;> rfl
@[simp] theorem adcDecimal_config : (adcDecimal m s).config = s.config := by
  unfold adcDecimal; (repeat' split) <;> rfl
@[simp] theorem adcDecimal_load (adr : Word) : (adcDecimal m s).load adr = s.load adr := by
  simp [State.load]

end

/-! ### `sbcDecimal` -/

section
variable (m : Byte) (s : State)

@[simp] theorem sbcDecimal_x : (sbcDecimal m s).x = s.x := by
  unfold sbcDecimal; (repeat' split) <;> rfl
@[simp] theorem sbcDecimal_y : (sbcDecimal m s).y = s.y := by
  unfold sbcDecimal; (repeat' split) <;> rfl
@[simp] theorem sbcDecimal_sp : (sbcDecimal m s).sp = s.sp := by
  unfold sbcDecimal; (repeat' split) <;> rfl
@[simp] theorem sbcDecimal_pc : (sbcDecimal m s).pc = s.pc := by
  unfold sbcDecimal; (repeat' split) <;> rfl
@[simp] theorem sbcDecimal_d : (sbcDecimal m s).d = s.d := by
  unfold sbcDecimal; (repeat' split) <;> rfl
@[simp] theorem sbcDecimal_i : (sbcDecimal m s).i = s.i := by
  unfold sbcDecimal; (repeat' split) <;> rfl
@[simp] theorem sbcDecimal_mem : (sbcDecimal m s).mem = s.mem := by
  unfold sbcDecimal; (repeat' split) <;> rfl
@[simp] theorem sbcDecimal_cycles : (sbcDecimal m s).cycles = s.cycles := by
  unfold sbcDecimal; (repeat' split) <;> rfl
@[simp] theorem sbcDecimal_halt : (sbcDecimal m s).halt = s.halt := by
  unfold sbcDecimal; (repeat' split) <;> rfl
@[simp] theorem sbcDecimal_irqLine : (sbcDecimal m s).irqLine = s.irqLine := by
  unfold sbcDecimal; (repeat' split) <;> rfl
@[simp] theorem sbcDecimal_nmiLatch : (sbcDecimal m s).nmiLatch = s.nmiLatch := by
  unfold sbcDecimal; (repeat' split) <;> rfl
@[simp] theorem sbcDecimal_bus : (sbcDecimal m s).bus = s.bus := by
  unfold sbcDecimal; (repeat' split) <;> rfl
@[simp] theorem sbcDecimal_config : (sbcDecimal m s).config = s.config := by
  unfold sbcDecimal; (repeat' split) <;> rfl
@[simp] theorem sbcDecimal_load (adr : Word) : (sbcDecimal m s).load adr = s.load adr := by
  simp [State.load]

end

/-! ### `adc` -/

section
variable (m : Byte) (s : State)

@[simp] theorem adc_x : (adc m s).x = s.x := by
  unfold adc; split <;> simp
@[simp] theorem adc_y : (adc m s).y = s.y := by
  unfold adc; split <;> simp
@[simp] theorem adc_sp : (adc m s).sp = s.sp := by
  unfold adc; split <;> simp
@[simp] theorem adc_pc : (adc m s).pc = s.pc := by
  unfold adc; split <;> simp
@[simp] theorem adc_d : (adc m s).d = s.d := by
  unfold adc; split <;> simp
@[simp] theorem adc_i : (adc m s).i = s.i := by
  unfold adc; split <;> simp
@[simp] theorem adc_mem : (adc m s).mem = s.mem := by
  unfold adc; split <;> simp
@[simp] theorem adc_cycles : (adc m s).cycles = s.cycles := by
  unfold adc; split <;> simp
@[simp] theorem adc_halt : (adc m s).halt = s.halt := by
  unfold adc; split <;> simp
@[simp] theorem adc_irqLine : (adc m s).irqLine = s.irqLine := by
  unfold adc; split <;> simp
@[simp] theorem adc_nmiLatch : (adc m s).nmiLatch = s.nmiLatch := by
  unfold adc; split <;> simp
@[simp] theorem adc_bus : (adc m s).bus = s.bus := by
  unfold adc; split <;> simp
@[simp] theorem adc_config : (adc m s).config = s.config := by
  unfold adc; split <;> simp
@[simp] theorem adc_load (adr : Word) : (adc m s).load adr = s.load adr := by
  simp [State.load]

end

/-! ### `sbc` -/

section
variable (m : Byte) (s : State)

@[simp] theorem sbc_x : (sbc m s).x = s.x := by
  unfold sbc; split <;> simp
@[simp] theorem sbc_y : (sbc m s).y = s.y := by
  unfold sbc; split <;> simp
@[simp] theorem sbc_sp : (sbc m s).sp = s.sp := by
  unfold sbc; split <;> simp
@[simp] theorem sbc_pc : (sbc m s).pc = s.pc := by
  unfold sbc; split <;> simp
@[simp] theorem sbc_d : (sbc m s).d = s.d := by
  unfold sbc; split <;> simp
@[simp] theorem sbc_i : (sbc m s).i = s.i := by
  unfold sbc; split <;> simp
@[simp] theorem sbc_mem : (sbc m s).mem = s.mem := by
  unfold sbc; split <;> simp
@[simp] theorem sbc_cycles : (sbc m s).cycles = s.cycles := by
  unfold sbc; split <;> simp
@[simp] theorem sbc_halt : (sbc m s).halt = s.halt := by
  unfold sbc; split <;> simp
@[simp] theorem sbc_irqLine : (sbc m s).irqLine = s.irqLine := by
  unfold sbc; split <;> simp
@[simp] theorem sbc_nmiLatch : (sbc m s).nmiLatch = s.nmiLatch := by
  unfold sbc; split <;> simp
@[simp] theorem sbc_bus : (sbc m s).bus = s.bus := by
  unfold sbc; split <;> simp
@[simp] theorem sbc_config : (sbc m s).config = s.config := by
  unfold sbc; split <;> simp
@[simp] theorem sbc_load (adr : Word) : (sbc m s).load adr = s.load adr := by
  simp [State.load]

end

/-! ### `cmp` -/

section
variable (m : Byte) (s : State)

@[simp] theorem cmp_a : (cmp m s).a = s.a := rfl
@[simp] theorem cmp_x : (cmp m s).x = s.x := rfl
@[simp] theorem cmp_y : (cmp m s).y = s.y := rfl
@[simp] theorem cmp_sp : (cmp m s).sp = s.sp := rfl
@[simp] theorem cmp_pc : (cmp m s).pc = s.pc := rfl
@[simp] theorem cmp_v : (cmp m s).v = s.v := rfl
@[simp] theorem cmp_d : (cmp m s).d = s.d := rfl
@[simp] theorem cmp_i : (cmp m s).i = s.i := rfl
@[simp] theorem cmp_mem : (cmp m s).mem = s.mem := rfl
@[simp] theorem cmp_cycles : (cmp m s).cycles = s.cycles := rfl
@[simp] theorem cmp_halt : (cmp m s).halt = s.halt := rfl
@[simp] theorem cmp_irqLine : (cmp m s).irqLine = s.irqLine := rfl
@[simp] theorem cmp_nmiLatch : (cmp m s).nmiLatch = s.nmiLatch := rfl
@[simp] theorem cmp_bus : (cmp m s).bus = s.bus := rfl
@[simp] theorem cmp_draws : (cmp m s).draws = s.draws := rfl
@[simp] theorem cmp_config : (cmp m s).config = s.config := rfl
@[simp] theorem cmp_load (adr : Word) : (cmp m s).load adr = s.load adr := by
  simp [State.load]

end

/-! ### `cpx` -/

section
variable (m : Byte) (s : State)

@[simp] theorem cpx_a : (cpx m s).a = s.a := rfl
@[simp] theorem cpx_x : (cpx m s).x = s.x := rfl
@[simp] theorem cpx_y : (cpx m s).y = s.y := rfl
@[simp] theorem cpx_sp : (cpx m s).sp = s.sp := rfl
@[simp] theorem cpx_pc : (cpx m s).pc = s.pc := rfl
@[simp] theorem cpx_v : (cpx m s).v = s.v := rfl
@[simp] theorem cpx_d : (cpx m s).d = s.d := rfl
@[simp] theorem cpx_i : (cpx m s).i = s.i := rfl
@[simp] theorem cpx_mem : (cpx m s).mem = s.mem := rfl
@[simp] theorem cpx_cycles : (cpx m s).cycles = s.cycles := rfl
@[simp] theorem cpx_halt : (cpx m s).halt = s.halt := rfl
@[simp] theorem cpx_irqLine : (cpx m s).irqLine = s.irqLine := rfl
@[simp] theorem cpx_nmiLatch : (cpx m s).nmiLatch = s.nmiLatch := rfl
@[simp] theorem cpx_bus : (cpx m s).bus = s.bus := rfl
@[simp] theorem cpx_draws : (cpx m s).draws = s.draws := rfl
@[simp] theorem cpx_config : (cpx m s).config = s.config := rfl
@[simp] theorem cpx_load (adr : Word) : (cpx m s).load adr = s.load adr := by
  simp [State.load]

end

/-! ### `cpy` -/

section
variable (m : Byte) (s : State)

@[simp] theorem cpy_a : (cpy m s).a = s.a := rfl
@[simp] theorem cpy_x : (cpy m s).x = s.x := rfl
@[simp] theorem cpy_y : (cpy m s).y = s.y := rfl
@[simp] theorem cpy_sp : (cpy m s).sp = s.sp := rfl
@[simp] theorem cpy_pc : (cpy m s).pc = s.pc := rfl
@[simp] theorem cpy_v : (cpy m s).v = s.v := rfl
@[simp] theorem cpy_d : (cpy m s).d = s.d := rfl
@[simp] theorem cpy_i : (cpy m s).i = s.i := rfl
@[simp] theorem cpy_mem : (cpy m s).mem = s.mem := rfl
@[simp] theorem cpy_cycles : (cpy m s).cycles = s.cycles := rfl
@[simp] theorem cpy_halt : (cpy m s).halt = s.halt := rfl
@[simp] theorem cpy_irqLine : (cpy m s).irqLine = s.irqLine := rfl
@[simp] theorem cpy_nmiLatch : (cpy m s).nmiLatch = s.nmiLatch := rfl
@[simp] theorem cpy_bus : (cpy m s).bus = s.bus := rfl
@[simp] theorem cpy_draws : (cpy m s).draws = s.draws := rfl
@[simp] theorem cpy_config : (cpy m s).config = s.config := rfl
@[simp] theorem cpy_load (adr : Word) : (cpy m s).load adr = s.load adr := by
  simp [State.load]

end

/-! ### `bitTest` -/

section
variable (m : Byte) (s : State)

@[simp] theorem bitTest_a : (bitTest m s).a = s.a := rfl
@[simp] theorem bitTest_x : (bitTest m s).x = s.x := rfl
@[simp] theorem bitTest_y : (bitTest m s).y = s.y := rfl
@[simp] theorem bitTest_sp : (bitTest m s).sp = s.sp := rfl
@[simp] theorem bitTest_pc : (bitTest m s).pc = s.pc := rfl
@[simp] theorem bitTest_d : (bitTest m s).d = s.d := rfl
@[simp] theorem bitTest_i : (bitTest m s).i = s.i := rfl
@[simp] theorem bitTest_c : (bitTest m s).c = s.c := rfl
@[simp] theorem bitTest_mem : (bitTest m s).mem = s.mem := rfl
@[simp] theorem bitTest_cycles : (bitTest m s).cycles = s.cycles := rfl
@[simp] theorem bitTest_halt : (bitTest m s).halt = s.halt := rfl
@[simp] theorem bitTest_irqLine : (bitTest m s).irqLine = s.irqLine := rfl
@[simp] theorem bitTest_nmiLatch : (bitTest m s).nmiLatch = s.nmiLatch := rfl
@[simp] theorem bitTest_bus : (bitTest m s).bus = s.bus := rfl
@[simp] theorem bitTest_draws : (bitTest m s).draws = s.draws := rfl
@[simp] theorem bitTest_config : (bitTest m s).config = s.config := rfl
@[simp] theorem bitTest_load (adr : Word) : (bitTest m s).load adr = s.load adr := by
  simp [State.load]

end

/-! ### `andA` -/

section
variable (m : Byte) (s : State)

@[simp] theorem andA_x : (andA m s).x = s.x := rfl
@[simp] theorem andA_y : (andA m s).y = s.y := rfl
@[simp] theorem andA_sp : (andA m s).sp = s.sp := rfl
@[simp] theorem andA_pc : (andA m s).pc = s.pc := rfl
@[simp] theorem andA_v : (andA m s).v = s.v := rfl
@[simp] theorem andA_d : (andA m s).d = s.d := rfl
@[simp] theorem andA_i : (andA m s).i = s.i := rfl
@[simp] theorem andA_c : (andA m s).c = s.c := rfl
@[simp] theorem andA_mem : (andA m s).mem = s.mem := rfl
@[simp] theorem andA_cycles : (andA m s).cycles = s.cycles := rfl
@[simp] theorem andA_halt : (andA m s).halt = s.halt := rfl
@[simp] theorem andA_irqLine : (andA m s).irqLine = s.irqLine := rfl
@[simp] theorem andA_nmiLatch : (andA m s).nmiLatch = s.nmiLatch := rfl
@[simp] theorem andA_bus : (andA m s).bus = s.bus := rfl
@[simp] theorem andA_draws : (andA m s).draws = s.draws := rfl
@[simp] theorem andA_config : (andA m s).config = s.config := rfl
@[simp] theorem andA_load (adr : Word) : (andA m s).load adr = s.load adr := by
  simp [State.load]

end

/-! ### `oraA` -/

section
variable (m : Byte) (s : State)

@[simp] theorem oraA_x : (oraA m s).x = s.x := rfl
@[simp] theorem oraA_y : (oraA m s).y = s.y := rfl
@[simp] theorem oraA_sp : (oraA m s).sp = s.sp := rfl
@[simp] theorem oraA_pc : (oraA m s).pc = s.pc := rfl
@[simp] theorem oraA_v : (oraA m s).v = s.v := rfl
@[simp] theorem oraA_d : (oraA m s).d = s.d := rfl
@[simp] theorem oraA_i : (oraA m s).i = s.i := rfl
@[simp] theorem oraA_c : (oraA m s).c = s.c := rfl
@[simp] theorem oraA_mem : (oraA m s).mem = s.mem := rfl
@[simp] theorem oraA_cycles : (oraA m s).cycles = s.cycles := rfl
@[simp] theorem oraA_halt : (oraA m s).halt = s.halt := rfl
@[simp] theorem oraA_irqLine : (oraA m s).irqLine = s.irqLine := rfl
@[simp] theorem oraA_nmiLatch : (oraA m s).nmiLatch = s.nmiLatch := rfl
@[simp] theorem oraA_bus : (oraA m s).bus = s.bus := rfl
@[simp] theorem oraA_draws : (oraA m s).draws = s.draws := rfl
@[simp] theorem oraA_config : (oraA m s).config = s.config := rfl
@[simp] theorem oraA_load (adr : Word) : (oraA m s).load adr = s.load adr := by
  simp [State.load]

end

/-! ### `eorA` -/

section
variable (m : Byte) (s : State)

@[simp] theorem eorA_x : (eorA m s).x = s.x := rfl
@[simp] theorem eorA_y : (eorA m s).y = s.y := rfl
@[simp] theorem eorA_sp : (eorA m s).sp = s.sp := rfl
@[simp] theorem eorA_pc : (eorA m s).pc = s.pc := rfl
@[simp] theorem eorA_v : (eorA m s).v = s.v := rfl
@[simp] theorem eorA_d : (eorA m s).d = s.d := rfl
@[simp] theorem eorA_i : (eorA m s).i = s.i := rfl
@[simp] theorem eorA_c : (eorA m s).c = s.c := rfl
@[simp] theorem eorA_mem : (eorA m s).mem = s.mem := rfl
@[simp] theorem eorA_cycles : (eorA m s).cycles = s.cycles := rfl
@[simp] theorem eorA_halt : (eorA m s).halt = s.halt := rfl
@[simp] theorem eorA_irqLine : (eorA m s).irqLine = s.irqLine := rfl
@[simp] theorem eorA_nmiLatch : (eorA m s).nmiLatch = s.nmiLatch := rfl
@[simp] theorem eorA_bus : (eorA m s).bus = s.bus := rfl
@[simp] theorem eorA_draws : (eorA m s).draws = s.draws := rfl
@[simp] theorem eorA_config : (eorA m s).config = s.config := rfl
@[simp] theorem eorA_load (adr : Word) : (eorA m s).load adr = s.load adr := by
  simp [State.load]

end

/-! ### `loadA` -/

section
variable (m : Byte) (s : State)

@[simp] theorem loadA_x : (loadA m s).x = s.x := rfl
@[simp] theorem loadA_y : (loadA m s).y = s.y := rfl
@[simp] theorem loadA_sp : (loadA m s).sp = s.sp := rfl
@[simp] theorem loadA_pc : (loadA m s).pc = s.pc := rfl
@[simp] theorem loadA_v : (loadA m s).v = s.v := rfl
@[simp] theorem loadA_d : (loadA m s).d = s.d := rfl
@[simp] theorem loadA_i : (loadA m s).i = s.i := rfl
@[simp] theorem loadA_c : (loadA m s).c = s.c := rfl
@[simp] theorem loadA_mem : (loadA m s).mem = s.mem := rfl
@[simp] theorem loadA_cycles : (loadA m s).cycles = s.cycles := rfl
@[simp] theorem loadA_halt : (loadA m s).halt = s.halt := rfl
@[simp] theorem loadA_irqLine : (loadA m s).irqLine = s.irqLine := rfl
@[simp] theorem loadA_nmiLatch : (loadA m s).nmiLatch = s.nmiLatch := rfl
@[simp] theorem loadA_bus : (loadA m s).bus = s.bus := rfl
@[simp] theorem loadA_draws : (loadA m s).draws = s.draws := rfl
@[simp] theorem loadA_config : (loadA m s).config = s.config := rfl
@[simp] theorem loadA_load (adr : Word) : (loadA m s).load adr = s.load adr := by
  simp [State.load]

end

/-! ### `loadX` -/

section
variable (m : Byte) (s : State)

@[simp] theorem loadX_a : (loadX m s).a = s.a := rfl
@[simp] theorem loadX_y : (loadX m s).y = s.y := rfl
@[simp] theorem loadX_sp : (loadX m s).sp = s.sp := rfl
@[simp] theorem loadX_pc : (loadX m s).pc = s.pc := rfl
@[simp] theorem loadX_v : (loadX m s).v = s.v := rfl
@[simp] theorem loadX_d : (loadX m s).d = s.d := rfl
@[simp] theorem loadX_i : (loadX m s).i = s.i := rfl
@[simp] theorem loadX_c : (loadX m s).c = s.c := rfl
@[simp] theorem loadX_mem : (loadX m s).mem = s.mem := rfl
@[simp] theorem loadX_cycles : (loadX m s).cycles = s.cycles := rfl
@[simp] theorem loadX_halt : (loadX m s).halt = s.halt := rfl
@[simp] theorem loadX_irqLine : (loadX m s).irqLine = s.irqLine := rfl
@[simp] theorem loadX_nmiLatch : (loadX m s).nmiLatch = s.nmiLatch := rfl
@[simp] theorem loadX_bus : (loadX m s).bus = s.bus := rfl
@[simp] theorem loadX_draws : (loadX m s).draws = s.draws := rfl
@[simp] theorem loadX_config : (loadX m s).config = s.config := rfl
@[simp] theorem loadX_load (adr : Word) : (loadX m s).load adr = s.load adr := by
  simp [State.load]

end

/-! ### `loadY` -/

section
variable (m : Byte) (s : State)

@[simp] theorem loadY_a : (loadY m s).a = s.a := rfl
@[simp] theorem loadY_x : (loadY m s).x = s.x := rfl
@[simp] theorem loadY_sp : (loadY m s).sp = s.sp := rfl
@[simp] theorem loadY_pc : (loadY m s).pc = s.pc := rfl
@[simp] theorem loadY_v : (loadY m s).v = s.v := rfl
@[simp] theorem loadY_d : (loadY m s).d = s.d := rfl
@[simp] theorem loadY_i : (loadY m s).i = s.i := rfl
@[simp] theorem loadY_c : (loadY m s).c = s.c := rfl
@[simp] theorem loadY_mem : (loadY m s).mem = s.mem := rfl
@[simp] theorem loadY_cycles : (loadY m s).cycles = s.cycles := rfl
@[simp] theorem loadY_halt : (loadY m s).halt = s.halt := rfl
@[simp] theorem loadY_irqLine : (loadY m s).irqLine = s.irqLine := rfl
@[simp] theorem loadY_nmiLatch : (loadY m s).nmiLatch = s.nmiLatch := rfl
@[simp] theorem loadY_bus : (loadY m s).bus = s.bus := rfl
@[simp] theorem loadY_draws : (loadY m s).draws = s.draws := rfl
@[simp] theorem loadY_config : (loadY m s).config = s.config := rfl
@[simp] theorem loadY_load (adr : Word) : (loadY m s).load adr = s.load adr := by
  simp [State.load]

end

/-! ### `aslF` -/

section
variable (v : Byte) (s : State)

@[simp] theorem aslF_a : ((aslF v s).2).a = s.a := rfl
@[simp] theorem aslF_x : ((aslF v s).2).x = s.x := rfl
@[simp] theorem aslF_y : ((aslF v s).2).y = s.y := rfl
@[simp] theorem aslF_sp : ((aslF v s).2).sp = s.sp := rfl
@[simp] theorem aslF_pc : ((aslF v s).2).pc = s.pc := rfl
@[simp] theorem aslF_v : ((aslF v s).2).v = s.v := rfl
@[simp] theorem aslF_d : ((aslF v s).2).d = s.d := rfl
@[simp] theorem aslF_i : ((aslF v s).2).i = s.i := rfl
@[simp] theorem aslF_mem : ((aslF v s).2).mem = s.mem := rfl
@[simp] theorem aslF_cycles : ((aslF v s).2).cycles = s.cycles := rfl
@[simp] theorem aslF_halt : ((aslF v s).2).halt = s.halt := rfl
@[simp] theorem aslF_irqLine : ((aslF v s).2).irqLine = s.irqLine := rfl
@[simp] theorem aslF_nmiLatch : ((aslF v s).2).nmiLatch = s.nmiLatch := rfl
@[simp] theorem aslF_bus : ((aslF v s).2).bus = s.bus := rfl
@[simp] theorem aslF_draws : ((aslF v s).2).draws = s.draws := rfl
@[simp] theorem aslF_config : ((aslF v s).2).config = s.config := rfl
@[simp] theorem aslF_load (adr : Word) : ((aslF v s).2).load adr = s.load adr := by
  simp [State.load]

end

/-! ### `lsrF` -/

section
variable (v : Byte) (s : State)

@[simp] theorem lsrF_a : ((lsrF v s).2).a = s.a := rfl
@[simp] theorem lsrF_x : ((lsrF v s).2).x = s.x := rfl
@[simp] theorem lsrF_y : ((lsrF v s).2).y = s.y := rfl
@[simp] theorem lsrF_sp : ((lsrF v s).2).sp = s.sp := rfl
@[simp] theorem lsrF_pc : ((lsrF v s).2).pc = s.pc := rfl
@[simp] theorem lsrF_v : ((lsrF v s).2).v = s.v := rfl
@[simp] theorem lsrF_d : ((lsrF v s).2).d = s.d := rfl
@[simp] theorem lsrF_i : ((lsrF v s).2).i = s.i := rfl
@[simp] theorem lsrF_mem : ((lsrF v s).2).mem = s.mem := rfl
@[simp] theorem lsrF_cycles : ((lsrF v s).2).cycles = s.cycles := rfl
@[simp] theorem lsrF_halt : ((lsrF v s).2).halt = s.halt := rfl
@[simp] theorem lsrF_irqLine : ((lsrF v s).2).irqLine = s.irqLine := rfl
@[simp] theorem lsrF_nmiLatch : ((lsrF v s).2).nmiLatch = s.nmiLatch := rfl
@[simp] theorem lsrF_bus : ((lsrF v s).2).bus = s.bus := rfl
@[simp] theorem lsrF_draws : ((lsrF v s).2).draws = s.draws := rfl
@[simp] theorem lsrF_config : ((lsrF v s).2).config = s.config := rfl
@[simp] theorem lsrF_load (adr : Word) : ((lsrF v s).2).load adr = s.load adr := by
  simp [State.load]

end

/-! ### `rolF` -/

section
variable (v : Byte) (s : State)

@[simp] theorem rolF_a : ((rolF v s).2).a = s.a := rfl
@[simp] theorem rolF_x : ((rolF v s).2).x = s.x := rfl
@[simp] theorem rolF_y : ((rolF v s).2).y = s.y := rfl
@[simp] theorem rolF_sp : ((rolF v s).2).sp = s.sp := rfl
@[simp] theorem rolF_pc : ((rolF v s).2).pc = s.pc := rfl
@[simp] theorem rolF_v : ((rolF v s).2).v = s.v := rfl
@[simp] theorem rolF_d : ((rolF v s).2).d = s.d := rfl
@[simp] theorem rolF_i : ((rolF v s).2).i = s.i := rfl
@[simp] theorem rolF_mem : ((rolF v s).2).mem = s.mem := rfl
@[simp] theorem rolF_cycles : ((rolF v s).2).cycles = s.cycles := rfl
@[simp] theorem rolF_halt : ((rolF v s).2).halt = s.halt := rfl
@[simp] theorem rolF_irqLine : ((rolF v s).2).irqLine = s.irqLine := rfl
@[simp] theorem rolF_nmiLatch : ((rolF v s).2).nmiLatch = s.nmiLatch := rfl
@[simp] theorem rolF_bus : ((rolF v s).2).bus = s.bus := rfl
@[simp] theorem rolF_draws : ((rolF v s).2).draws = s.draws := rfl
@[simp] theorem rolF_config : ((rolF v s).2).config = s.config := rfl
@[simp] theorem rolF_load (adr : Word) : ((rolF v s).2).load adr = s.load adr := by
  simp [State.load]

end

/-! ### `rorF` -/

section
variable (v : Byte) (s : State)

@[simp] theorem rorF_a : ((rorF v s).2).a = s.a := rfl
@[simp] theorem rorF_x : ((rorF v s).2).x = s.x := rfl
@[simp] theorem rorF_y : ((rorF v s).2).y = s.y := rfl
@[simp] theorem rorF_sp : ((rorF v s).2).sp = s.sp := rfl
@[simp] theorem rorF_pc : ((rorF v s).2).pc = s.pc := rfl
@[simp] theorem rorF_v : ((rorF v s).2).v = s.v := rfl
@[simp] theorem rorF_d : ((rorF v s).2).d = s.d := rfl
@[simp] theorem rorF_i : ((rorF v s).2).i = s.i := rfl
@[simp] theorem rorF_mem : ((rorF v s).2).mem = s.mem := rfl
@[simp] theorem rorF_cycles : ((rorF v s).2).cycles = s.cycles := rfl
@[simp] theorem rorF_halt : ((rorF v s).2).halt = s.halt := rfl
@[simp] theorem rorF_irqLine : ((rorF v s).2).irqLine = s.irqLine := rfl
@[simp] theorem rorF_nmiLatch : ((rorF v s).2).nmiLatch = s.nmiLatch := rfl
@[simp] theorem rorF_bus : ((rorF v s).2).bus = s.bus := rfl
@[simp] theorem rorF_draws : ((rorF v s).2).draws = s.draws := rfl
@[simp] theorem rorF_config : ((rorF v s).2).config = s.config := rfl
@[simp] theorem rorF_load (adr : Word) : ((rorF v s).2).load adr = s.load adr := by
  simp [State.load]

end

/-! ### `incF` -/

section
variable (v : Byte) (s : State)

@[simp] theorem incF_a : ((incF v s).2).a = s.a := rfl
@[simp] theorem incF_x : ((incF v s).2).x = s.x := rfl
@[simp] theorem incF_y : ((incF v s).2).y = s.y := rfl
@[simp] theorem incF_sp : ((incF v s).2).sp = s.sp := rfl
@[simp] theorem incF_pc : ((incF v s).2).pc = s.pc := rfl
@[simp] theorem incF_v : ((incF v s).2).v = s.v := rfl
@[simp] theorem incF_d : ((incF v s).2).d = s.d := rfl
@[simp] theorem incF_i : ((incF v s).2).i = s.i := rfl
@[simp] theorem incF_c : ((incF v s).2).c = s.c := rfl
@[simp] theorem incF_mem : ((incF v s).2).mem = s.mem := rfl
@[simp] theorem incF_cycles : ((incF v s).2).cycles = s.cycles := rfl
@[simp] theorem incF_halt : ((incF v s).2).halt = s.halt := rfl
@[simp] theorem incF_irqLine : ((incF v s).2).irqLine = s.irqLine := rfl
@[simp] theorem incF_nmiLatch : ((incF v s).2).nmiLatch = s.nmiLatch := rfl
@[simp] theorem incF_bus : ((incF v s).2).bus = s.bus := rfl
@[simp] theorem incF_draws : ((incF v s).2).draws = s.draws := rfl
@[simp] theorem incF_config : ((incF v s).2).config = s.config := rfl
@[simp] theorem incF_load (adr : Word) : ((incF v s).2).load adr = s.load adr := by
  simp [State.load]

end

/-! ### `decF` -/

section
variable (v : Byte) (s : State)

@[simp] theorem decF_a : ((decF v s).2).a = s.a := rfl
@[simp] theorem decF_x : ((decF v s).2).x = s.x := rfl
@[simp] theorem decF_y : ((decF v s).2).y = s.y := rfl
@[simp] theorem decF_sp : ((decF v s).2).sp = s.sp := rfl
@[simp] theorem decF_pc : ((decF v s).2).pc = s.pc := rfl
@[simp] theorem decF_v : ((decF v s).2).v = s.v := rfl
@[simp] theorem decF_d : ((decF v s).2).d = s.d := rfl
@[simp] theorem decF_i : ((decF v s).2).i = s.i := rfl
@[simp] theorem decF_c : ((decF v s).2).c = s.c := rfl
@[simp] theorem decF_mem : ((decF v s).2).mem = s.mem := rfl
@[simp] theorem decF_cycles : ((decF v s).2).cycles = s.cycles := rfl
@[simp] theorem decF_halt : ((decF v s).2).halt = s.halt := rfl
@[simp] theorem decF_irqLine : ((decF v s).2).irqLine = s.irqLine := rfl
@[simp] theorem decF_nmiLatch : ((decF v s).2).nmiLatch = s.nmiLatch := rfl
@[simp] theorem decF_bus : ((decF v s).2).bus = s.bus := rfl
@[simp] theorem decF_draws : ((decF v s).2).draws = s.draws := rfl
@[simp] theorem decF_config : ((decF v s).2).config = s.config := rfl
@[simp] theorem decF_load (adr : Word) : ((decF v s).2).load adr = s.load adr := by
  simp [State.load]

end

end Sys2Proof.Machine
end

