-- ==== Sys2Proof/Laws/Memory.lean ====
section
/-! SUPPORT. The laws of the flat RAM: a read after a write, and that every operation keeps the canonical
form (`20_memory.md` R50, R51, R80). -/

namespace Sys2Proof.Machine

theorem Memory.read_insert_same (m : Memory) (a : Nat) (b : Byte) :
    (m.insert a b).read a = b := by
  induction m with
  | nil => simp [Memory.insert, Memory.read]
  | cons p rest ih =>
    obtain ⟨k, v⟩ := p
    simp only [Memory.insert]
    split
    · simp [Memory.read]
    · split
      · simp [Memory.read]
      · simp_all [Memory.read]

theorem Memory.read_insert_other (m : Memory) (a a' : Nat) (b : Byte) (h : a' ≠ a) :
    (m.insert a b).read a' = m.read a' := by
  induction m with
  | nil => simp [Memory.insert, Memory.read, h]
  | cons p rest ih =>
    obtain ⟨k, v⟩ := p
    simp only [Memory.insert]
    split
    · simp [Memory.read, h]
    · split
      · simp_all [Memory.read]
      · simp_all [Memory.read]

theorem Memory.read_erase (m : Memory) (a a' : Nat) :
    (m.erase a).read a' = if a' = a then Config.memFill else m.read a' := by
  induction m with
  | nil => simp [Memory.erase, Memory.read]
  | cons p rest ih =>
    obtain ⟨k, v⟩ := p
    simp only [Memory.erase]
    by_cases hk : a = k <;> by_cases ha : a' = a <;> by_cases hb : a' = k <;>
      simp_all [Memory.read]

/-- A load returns the byte last stored at its address (R80). -/
theorem Memory.read_write_same (m : Memory) (a : Nat) (b : Byte) : (m.write a b).read a = b := by
  unfold Memory.write
  split
  · simp_all [Memory.read_erase]
  · exact Memory.read_insert_same m a b

/-- A store changes no other byte (R54). -/
theorem Memory.read_write_other (m : Memory) (a a' : Nat) (b : Byte) (h : a' ≠ a) :
    (m.write a b).read a' = m.read a' := by
  unfold Memory.write
  split
  · simp [Memory.read_erase, h]
  · exact Memory.read_insert_other m a a' b h

theorem Memory.mem_erase (m : Memory) (a : Nat) (p : Host.Cell) (h : p ∈ m.erase a) : p ∈ m := by
  induction m with
  | nil => exact h
  | cons q rest ih =>
    obtain ⟨k, v⟩ := q
    simp only [Memory.erase] at h
    split at h
    · exact List.mem_cons_of_mem _ (ih h)
    · rcases List.mem_cons.mp h with rfl | h
      · exact List.mem_cons_self
      · exact List.mem_cons_of_mem _ (ih h)

theorem Memory.mem_insert (m : Memory) (a : Nat) (b : Byte) (p : Host.Cell)
    (h : p ∈ m.insert a b) : p = (a, b) ∨ p ∈ m := by
  induction m with
  | nil => simpa [Memory.insert] using h
  | cons q rest ih =>
    obtain ⟨k, v⟩ := q
    simp only [Memory.insert] at h
    split at h
    · simpa using h
    · split at h <;> rcases List.mem_cons.mp h with h | h
      · exact .inl h
      · exact .inr (List.mem_cons_of_mem _ h)
      · exact .inr (h ▸ List.mem_cons_self)
      · exact (ih h).imp_right (List.mem_cons_of_mem _)

theorem Memory.erase_wf {m : Memory} (h : m.wf) (a : Nat) : (m.erase a).wf := by
  refine ⟨?_, fun p hp => h.2 p (Memory.mem_erase m a p hp)⟩
  obtain ⟨hs, -⟩ := h
  induction m with
  | nil => exact List.Pairwise.nil
  | cons q rest ih =>
    obtain ⟨k, v⟩ := q
    rw [List.pairwise_cons] at hs
    simp only [Memory.erase]
    split
    · exact ih hs.2
    · exact List.pairwise_cons.mpr ⟨fun p hp => hs.1 p (Memory.mem_erase rest a p hp), ih hs.2⟩

theorem Memory.insert_wf {m : Memory} (h : m.wf) {a : Nat} {b : Byte} (ha : a < 65536)
    (hb : b ≠ Config.memFill) : (m.insert a b).wf := by
  refine ⟨?_, fun p hp => ?_⟩
  · obtain ⟨hs, -⟩ := h
    induction m with
    | nil => simp [Memory.insert]
    | cons q rest ih =>
      obtain ⟨k, v⟩ := q
      have hs' := List.pairwise_cons.mp hs
      simp only [Memory.insert]
      split
      · next hlt =>
        refine List.pairwise_cons.mpr ⟨fun p hp => ?_, hs⟩
        rcases List.mem_cons.mp hp with rfl | hp
        · exact hlt
        · exact Nat.lt_trans hlt (hs'.1 p hp)
      · split
        · next heq =>
          subst heq
          exact List.pairwise_cons.mpr ⟨hs'.1, hs'.2⟩
        · refine List.pairwise_cons.mpr ⟨fun p hp => ?_, ih hs'.2⟩
          rcases Memory.mem_insert rest a b p hp with rfl | hp
          · show k < a
            omega
          · exact hs'.1 p hp
  · rcases Memory.mem_insert m a b p hp with rfl | hp
    · exact ⟨ha, hb⟩
    · exact h.2 p hp

/-- Every store keeps the canonical form. -/
theorem Memory.write_wf {m : Memory} (h : m.wf) {a : Nat} {b : Byte} (ha : a < 65536) :
    (m.write a b).wf := by
  unfold Memory.write
  split
  · exact Memory.erase_wf h a
  · next hb => exact Memory.insert_wf h ha hb

/-- The memory right after reset is in the canonical form. -/
theorem State.reset_mem_wf : State.reset.mem.wf := by decide

end Sys2Proof.Machine
end

