-- ==== Sys2Proof/Laws/Ops.lean ====
section
/-! SUPPORT. What each named operation over memory and registers does, field by field, so that callers
cite it and do not unfold it. -/

namespace Sys2Proof.Machine

/-- A store is seen by the next load of its address, and by no other (`20_memory.md` R80). -/
theorem load_write (m : Memory) (p adr : Word) (w : Byte) :
    (m.write p.toNat w).read adr.toNat = if adr = p then w else m.read adr.toNat := by
  by_cases h : adr = p
  · subst h; simp [Memory.read_write_same]
  · rw [if_neg h, Memory.read_write_other]
    exact fun e => h (BitVec.eq_of_toNat_eq e)

/-! ### `access` -/

section
variable (s : State) (acc : BusAccess)

@[simp] theorem State.access_a : (s.access acc).a = s.a := rfl
@[simp] theorem State.access_x : (s.access acc).x = s.x := rfl
@[simp] theorem State.access_y : (s.access acc).y = s.y := rfl
@[simp] theorem State.access_sp : (s.access acc).sp = s.sp := rfl
@[simp] theorem State.access_pc : (s.access acc).pc = s.pc := rfl
@[simp] theorem State.access_n : (s.access acc).n = s.n := rfl
@[simp] theorem State.access_v : (s.access acc).v = s.v := rfl
@[simp] theorem State.access_d : (s.access acc).d = s.d := rfl
@[simp] theorem State.access_i : (s.access acc).i = s.i := rfl
@[simp] theorem State.access_z : (s.access acc).z = s.z := rfl
@[simp] theorem State.access_c : (s.access acc).c = s.c := rfl
@[simp] theorem State.access_mem : (s.access acc).mem = s.mem := rfl
@[simp] theorem State.access_cycles : (s.access acc).cycles = s.cycles + 1 := rfl
@[simp] theorem State.access_halt : (s.access acc).halt = s.halt := rfl
@[simp] theorem State.access_irqLine : (s.access acc).irqLine = s.irqLine := rfl
@[simp] theorem State.access_nmiLatch : (s.access acc).nmiLatch = s.nmiLatch := rfl
@[simp] theorem State.access_bus : (s.access acc).bus = s.bus ++ [acc] := rfl
@[simp] theorem State.access_draws : (s.access acc).draws = s.draws := rfl
@[simp] theorem State.access_config : (s.access acc).config = s.config := rfl
@[simp] theorem State.access_load (adr : Word) :
    (s.access acc).load adr = s.load adr := rfl

end

/-! ### `busRead` -/

section
variable (s : State) (p : Word)

@[simp] theorem State.busRead_a : (s.busRead p).a = s.a := rfl
@[simp] theorem State.busRead_x : (s.busRead p).x = s.x := rfl
@[simp] theorem State.busRead_y : (s.busRead p).y = s.y := rfl
@[simp] theorem State.busRead_sp : (s.busRead p).sp = s.sp := rfl
@[simp] theorem State.busRead_pc : (s.busRead p).pc = s.pc := rfl
@[simp] theorem State.busRead_n : (s.busRead p).n = s.n := rfl
@[simp] theorem State.busRead_v : (s.busRead p).v = s.v := rfl
@[simp] theorem State.busRead_d : (s.busRead p).d = s.d := rfl
@[simp] theorem State.busRead_i : (s.busRead p).i = s.i := rfl
@[simp] theorem State.busRead_z : (s.busRead p).z = s.z := rfl
@[simp] theorem State.busRead_c : (s.busRead p).c = s.c := rfl
@[simp] theorem State.busRead_mem : (s.busRead p).mem = s.mem := rfl
@[simp] theorem State.busRead_cycles : (s.busRead p).cycles = s.cycles + 1 := rfl
@[simp] theorem State.busRead_halt : (s.busRead p).halt = s.halt := rfl
@[simp] theorem State.busRead_irqLine : (s.busRead p).irqLine = s.irqLine := rfl
@[simp] theorem State.busRead_nmiLatch : (s.busRead p).nmiLatch = s.nmiLatch := rfl
@[simp] theorem State.busRead_bus : (s.busRead p).bus = s.bus ++ [⟨.read, p, s.load p⟩] := rfl
@[simp] theorem State.busRead_draws : (s.busRead p).draws = s.draws := rfl
@[simp] theorem State.busRead_config : (s.busRead p).config = s.config := rfl
@[simp] theorem State.busRead_load (adr : Word) :
    (s.busRead p).load adr = s.load adr := rfl

end

/-! ### `busWrite` -/

section
variable (s : State) (p : Word) (w : Byte)

@[simp] theorem State.busWrite_a : (s.busWrite p w).a = s.a := rfl
@[simp] theorem State.busWrite_x : (s.busWrite p w).x = s.x := rfl
@[simp] theorem State.busWrite_y : (s.busWrite p w).y = s.y := rfl
@[simp] theorem State.busWrite_sp : (s.busWrite p w).sp = s.sp := rfl
@[simp] theorem State.busWrite_pc : (s.busWrite p w).pc = s.pc := rfl
@[simp] theorem State.busWrite_n : (s.busWrite p w).n = s.n := rfl
@[simp] theorem State.busWrite_v : (s.busWrite p w).v = s.v := rfl
@[simp] theorem State.busWrite_d : (s.busWrite p w).d = s.d := rfl
@[simp] theorem State.busWrite_i : (s.busWrite p w).i = s.i := rfl
@[simp] theorem State.busWrite_z : (s.busWrite p w).z = s.z := rfl
@[simp] theorem State.busWrite_c : (s.busWrite p w).c = s.c := rfl
@[simp] theorem State.busWrite_mem : (s.busWrite p w).mem = s.mem.write p.toNat w := rfl
@[simp] theorem State.busWrite_cycles : (s.busWrite p w).cycles = s.cycles + 1 := rfl
@[simp] theorem State.busWrite_halt : (s.busWrite p w).halt = s.halt := rfl
@[simp] theorem State.busWrite_irqLine : (s.busWrite p w).irqLine = s.irqLine := rfl
@[simp] theorem State.busWrite_nmiLatch : (s.busWrite p w).nmiLatch = s.nmiLatch := rfl
@[simp] theorem State.busWrite_bus : (s.busWrite p w).bus = s.bus ++ [⟨.write, p, w⟩] := rfl
@[simp] theorem State.busWrite_draws : (s.busWrite p w).draws = s.draws := rfl
@[simp] theorem State.busWrite_config : (s.busWrite p w).config = s.config := rfl
@[simp] theorem State.busWrite_load (adr : Word) :
    (s.busWrite p w).load adr = if adr = p then w else s.load adr :=
  load_write s.mem _ _ _

end

/-! ### `push` -/

section
variable (s : State) (w : Byte)

@[simp] theorem State.push_a : (s.push w).a = s.a := rfl
@[simp] theorem State.push_x : (s.push w).x = s.x := rfl
@[simp] theorem State.push_y : (s.push w).y = s.y := rfl
@[simp] theorem State.push_sp : (s.push w).sp = s.sp - 1#8 := rfl
@[simp] theorem State.push_pc : (s.push w).pc = s.pc := rfl
@[simp] theorem State.push_n : (s.push w).n = s.n := rfl
@[simp] theorem State.push_v : (s.push w).v = s.v := rfl
@[simp] theorem State.push_d : (s.push w).d = s.d := rfl
@[simp] theorem State.push_i : (s.push w).i = s.i := rfl
@[simp] theorem State.push_z : (s.push w).z = s.z := rfl
@[simp] theorem State.push_c : (s.push w).c = s.c := rfl
@[simp] theorem State.push_mem : (s.push w).mem = s.mem.write (stackAddr s.sp).toNat w := rfl
@[simp] theorem State.push_cycles : (s.push w).cycles = s.cycles + 1 := rfl
@[simp] theorem State.push_halt : (s.push w).halt = s.halt := rfl
@[simp] theorem State.push_irqLine : (s.push w).irqLine = s.irqLine := rfl
@[simp] theorem State.push_nmiLatch : (s.push w).nmiLatch = s.nmiLatch := rfl
@[simp] theorem State.push_bus : (s.push w).bus = s.bus ++ [⟨.write, stackAddr s.sp, w⟩] := rfl
@[simp] theorem State.push_draws : (s.push w).draws = s.draws := rfl
@[simp] theorem State.push_config : (s.push w).config = s.config := rfl
@[simp] theorem State.push_load (adr : Word) :
    (s.push w).load adr = if adr = stackAddr s.sp then w else s.load adr :=
  load_write s.mem _ _ _

end

/-! ### `pull` -/

section
variable (s : State)

@[simp] theorem State.pull_a : (s.pull).a = s.a := rfl
@[simp] theorem State.pull_x : (s.pull).x = s.x := rfl
@[simp] theorem State.pull_y : (s.pull).y = s.y := rfl
@[simp] theorem State.pull_sp : (s.pull).sp = s.sp + 1#8 := rfl
@[simp] theorem State.pull_pc : (s.pull).pc = s.pc := rfl
@[simp] theorem State.pull_n : (s.pull).n = s.n := rfl
@[simp] theorem State.pull_v : (s.pull).v = s.v := rfl
@[simp] theorem State.pull_d : (s.pull).d = s.d := rfl
@[simp] theorem State.pull_i : (s.pull).i = s.i := rfl
@[simp] theorem State.pull_z : (s.pull).z = s.z := rfl
@[simp] theorem State.pull_c : (s.pull).c = s.c := rfl
@[simp] theorem State.pull_mem : (s.pull).mem = s.mem := rfl
@[simp] theorem State.pull_cycles : (s.pull).cycles = s.cycles + 1 := rfl
@[simp] theorem State.pull_halt : (s.pull).halt = s.halt := rfl
@[simp] theorem State.pull_irqLine : (s.pull).irqLine = s.irqLine := rfl
@[simp] theorem State.pull_nmiLatch : (s.pull).nmiLatch = s.nmiLatch := rfl
@[simp] theorem State.pull_bus : (s.pull).bus = s.bus ++ [⟨.read, stackAddr (s.sp + 1#8), s.pulled⟩] := rfl
@[simp] theorem State.pull_draws : (s.pull).draws = s.draws := rfl
@[simp] theorem State.pull_config : (s.pull).config = s.config := rfl
@[simp] theorem State.pull_load (adr : Word) :
    (s.pull).load adr = s.load adr := rfl

end

/-! ### The pushed status byte and the pulled byte depend on flags, `SP` and memory only -/

section
variable (s : State) (b : Bool)

@[simp] theorem State.push_pByte (w : Byte) : (s.push w).pByte b = s.pByte b := rfl
@[simp] theorem State.busRead_pByte (p : Word) : (s.busRead p).pByte b = s.pByte b := rfl
@[simp] theorem State.busRead_pulled (p : Word) : (s.busRead p).pulled = s.pulled := rfl
@[simp] theorem State.setP_pulled (w : Byte) : (s.setP w).pulled = s.pulled := rfl
@[simp] theorem State.pull_pulled :
    s.pull.pulled = s.load (stackAddr (s.sp + 1#8 + 1#8)) := rfl

end

/-! ### Interrupt entry and return -/

section
variable (s : State) (ret : Word) (b : Bool) (vec : Word)

@[simp] theorem State.enterInterrupt_a :
    (s.enterInterrupt ret b vec).a = s.a := by
  simp [State.enterInterrupt]
@[simp] theorem State.enterInterrupt_x :
    (s.enterInterrupt ret b vec).x = s.x := by
  simp [State.enterInterrupt]
@[simp] theorem State.enterInterrupt_y :
    (s.enterInterrupt ret b vec).y = s.y := by
  simp [State.enterInterrupt]
@[simp] theorem State.enterInterrupt_sp :
    (s.enterInterrupt ret b vec).sp = s.sp - 1#8 - 1#8 - 1#8 := by
  simp [State.enterInterrupt]
@[simp] theorem State.enterInterrupt_n :
    (s.enterInterrupt ret b vec).n = s.n := by
  simp [State.enterInterrupt]
@[simp] theorem State.enterInterrupt_v :
    (s.enterInterrupt ret b vec).v = s.v := by
  simp [State.enterInterrupt]
@[simp] theorem State.enterInterrupt_d :
    (s.enterInterrupt ret b vec).d = s.d := by
  simp [State.enterInterrupt]
@[simp] theorem State.enterInterrupt_i :
    (s.enterInterrupt ret b vec).i = true := by
  simp [State.enterInterrupt]
@[simp] theorem State.enterInterrupt_z :
    (s.enterInterrupt ret b vec).z = s.z := by
  simp [State.enterInterrupt]
@[simp] theorem State.enterInterrupt_c :
    (s.enterInterrupt ret b vec).c = s.c := by
  simp [State.enterInterrupt]
@[simp] theorem State.enterInterrupt_cycles :
    (s.enterInterrupt ret b vec).cycles = s.cycles + 5 := by
  simp [State.enterInterrupt]
@[simp] theorem State.enterInterrupt_halt :
    (s.enterInterrupt ret b vec).halt = s.halt := by
  simp [State.enterInterrupt]
@[simp] theorem State.enterInterrupt_irqLine :
    (s.enterInterrupt ret b vec).irqLine = s.irqLine := by
  simp [State.enterInterrupt]
@[simp] theorem State.enterInterrupt_nmiLatch :
    (s.enterInterrupt ret b vec).nmiLatch = s.nmiLatch := by
  simp [State.enterInterrupt]
@[simp] theorem State.enterInterrupt_draws :
    (s.enterInterrupt ret b vec).draws = s.draws := by
  simp [State.enterInterrupt]
@[simp] theorem State.enterInterrupt_config :
    (s.enterInterrupt ret b vec).config = s.config := by
  simp [State.enterInterrupt]

/-- The bytes an interrupt entry leaves in memory: two of the return address and `Pbyte(b)`. -/
theorem State.enterInterrupt_mem :
    (s.enterInterrupt ret b vec).mem =
      ((s.mem.write (stackAddr s.sp).toNat (hi ret)).write
        (stackAddr (s.sp - 1#8)).toNat (lo ret)).write
        (stackAddr (s.sp - 1#8 - 1#8)).toNat (s.pByte b) := by
  simp [State.enterInterrupt]

end

section
variable (s : State)

@[simp] theorem State.returnFromInterrupt_a :
    s.returnFromInterrupt.a = s.a := by
  simp [State.returnFromInterrupt]
@[simp] theorem State.returnFromInterrupt_x :
    s.returnFromInterrupt.x = s.x := by
  simp [State.returnFromInterrupt]
@[simp] theorem State.returnFromInterrupt_y :
    s.returnFromInterrupt.y = s.y := by
  simp [State.returnFromInterrupt]
@[simp] theorem State.returnFromInterrupt_sp :
    s.returnFromInterrupt.sp = s.sp + 1#8 + 1#8 + 1#8 := by
  simp [State.returnFromInterrupt]
@[simp] theorem State.returnFromInterrupt_pc :
    s.returnFromInterrupt.pc = 
      mkWord (s.load (stackAddr (s.sp + 1#8 + 1#8 + 1#8))) (s.load (stackAddr (s.sp + 1#8 + 1#8))) := by
  simp [State.returnFromInterrupt]
@[simp] theorem State.returnFromInterrupt_n :
    s.returnFromInterrupt.n = s.pulled.getLsbD 7 := by
  simp [State.returnFromInterrupt]
@[simp] theorem State.returnFromInterrupt_v :
    s.returnFromInterrupt.v = s.pulled.getLsbD 6 := by
  simp [State.returnFromInterrupt]
@[simp] theorem State.returnFromInterrupt_d :
    s.returnFromInterrupt.d = s.pulled.getLsbD 3 := by
  simp [State.returnFromInterrupt]
@[simp] theorem State.returnFromInterrupt_i :
    s.returnFromInterrupt.i = s.pulled.getLsbD 2 := by
  simp [State.returnFromInterrupt]
@[simp] theorem State.returnFromInterrupt_z :
    s.returnFromInterrupt.z = s.pulled.getLsbD 1 := by
  simp [State.returnFromInterrupt]
@[simp] theorem State.returnFromInterrupt_c :
    s.returnFromInterrupt.c = s.pulled.getLsbD 0 := by
  simp [State.returnFromInterrupt]
@[simp] theorem State.returnFromInterrupt_mem :
    s.returnFromInterrupt.mem = s.mem := by
  simp [State.returnFromInterrupt]
@[simp] theorem State.returnFromInterrupt_cycles :
    s.returnFromInterrupt.cycles = s.cycles + 3 := by
  simp [State.returnFromInterrupt]
@[simp] theorem State.returnFromInterrupt_halt :
    s.returnFromInterrupt.halt = s.halt := by
  simp [State.returnFromInterrupt]
@[simp] theorem State.returnFromInterrupt_irqLine :
    s.returnFromInterrupt.irqLine = s.irqLine := by
  simp [State.returnFromInterrupt]
@[simp] theorem State.returnFromInterrupt_nmiLatch :
    s.returnFromInterrupt.nmiLatch = s.nmiLatch := by
  simp [State.returnFromInterrupt]
@[simp] theorem State.returnFromInterrupt_draws :
    s.returnFromInterrupt.draws = s.draws := by
  simp [State.returnFromInterrupt]
@[simp] theorem State.returnFromInterrupt_config :
    s.returnFromInterrupt.config = s.config := by
  simp [State.returnFromInterrupt]

end

/-! ### Fetching an instruction's bytes -/

section
variable (s : State) (k : Nat)

@[simp] theorem State.fetch_a : (s.fetch k).a = s.a := by
  induction k generalizing s with
  | zero => rfl
  | succ k ih => simp [State.fetch, ih]
@[simp] theorem State.fetch_x : (s.fetch k).x = s.x := by
  induction k generalizing s with
  | zero => rfl
  | succ k ih => simp [State.fetch, ih]
@[simp] theorem State.fetch_y : (s.fetch k).y = s.y := by
  induction k generalizing s with
  | zero => rfl
  | succ k ih => simp [State.fetch, ih]
@[simp] theorem State.fetch_sp : (s.fetch k).sp = s.sp := by
  induction k generalizing s with
  | zero => rfl
  | succ k ih => simp [State.fetch, ih]
@[simp] theorem State.fetch_n : (s.fetch k).n = s.n := by
  induction k generalizing s with
  | zero => rfl
  | succ k ih => simp [State.fetch, ih]
@[simp] theorem State.fetch_v : (s.fetch k).v = s.v := by
  induction k generalizing s with
  | zero => rfl
  | succ k ih => simp [State.fetch, ih]
@[simp] theorem State.fetch_d : (s.fetch k).d = s.d := by
  induction k generalizing s with
  | zero => rfl
  | succ k ih => simp [State.fetch, ih]
@[simp] theorem State.fetch_i : (s.fetch k).i = s.i := by
  induction k generalizing s with
  | zero => rfl
  | succ k ih => simp [State.fetch, ih]
@[simp] theorem State.fetch_z : (s.fetch k).z = s.z := by
  induction k generalizing s with
  | zero => rfl
  | succ k ih => simp [State.fetch, ih]
@[simp] theorem State.fetch_c : (s.fetch k).c = s.c := by
  induction k generalizing s with
  | zero => rfl
  | succ k ih => simp [State.fetch, ih]
@[simp] theorem State.fetch_mem : (s.fetch k).mem = s.mem := by
  induction k generalizing s with
  | zero => rfl
  | succ k ih => simp [State.fetch, ih]
@[simp] theorem State.fetch_halt : (s.fetch k).halt = s.halt := by
  induction k generalizing s with
  | zero => rfl
  | succ k ih => simp [State.fetch, ih]
@[simp] theorem State.fetch_irqLine : (s.fetch k).irqLine = s.irqLine := by
  induction k generalizing s with
  | zero => rfl
  | succ k ih => simp [State.fetch, ih]
@[simp] theorem State.fetch_nmiLatch : (s.fetch k).nmiLatch = s.nmiLatch := by
  induction k generalizing s with
  | zero => rfl
  | succ k ih => simp [State.fetch, ih]
@[simp] theorem State.fetch_draws : (s.fetch k).draws = s.draws := by
  induction k generalizing s with
  | zero => rfl
  | succ k ih => simp [State.fetch, ih]
@[simp] theorem State.fetch_config : (s.fetch k).config = s.config := by
  induction k generalizing s with
  | zero => rfl
  | succ k ih => simp [State.fetch, ih]
@[simp] theorem State.fetch_load (adr : Word) : (s.fetch k).load adr = s.load adr := by
  simp [State.load]

/-- Fetching `k` bytes advances `PC` by `k` modulo 65536 (`20_memory.md` R56). -/
@[simp] theorem State.fetch_pc : (s.fetch k).pc = s.pc + BitVec.ofNat 16 k := by
  induction k generalizing s with
  | zero => simp [State.fetch]
  | succ k ih =>
    simp only [State.fetch, ih, State.setPc_pc]
    apply BitVec.eq_of_toNat_eq
    simp only [BitVec.toNat_add, BitVec.toNat_ofNat]
    omega

/-- Fetching `k` bytes takes `k` cycles (`20_memory.md` R86). -/
@[simp] theorem State.fetch_cycles : (s.fetch k).cycles = s.cycles + k := by
  induction k generalizing s with
  | zero => rfl
  | succ k ih => simp [State.fetch, ih]; omega

end

/-! ### Memory stays canonical -/

theorem State.busWrite_wf (s : State) (p : Word) (w : Byte) (h : s.mem.wf) :
    (s.busWrite p w).mem.wf := Memory.write_wf h p.isLt

theorem State.push_wf (s : State) (w : Byte) (h : s.mem.wf) : (s.push w).mem.wf :=
  Memory.write_wf h (stackAddr s.sp).isLt

theorem State.enterInterrupt_wf (s : State) (ret : Word) (b : Bool) (vec : Word)
    (h : s.mem.wf) : (s.enterInterrupt ret b vec).mem.wf :=
  State.push_wf _ _ (State.push_wf _ _ (State.push_wf _ _ h))

end Sys2Proof.Machine
end

