-- ==== Sys2Proof/Laws/Operands.lean ====
section
/-! SUPPORT. What the shared shapes of meaning do: the accesses of an address mode change nothing but the
clock and the record of the bus, a store changes one byte, and an effective address does not depend on
the accesses made on the way to it. -/

namespace Sys2Proof.Machine

/-! ### Accesses on the way to the effective address -/

section
variable (o : MemOperand) (s : State)

@[simp] theorem pointerReads_a : (o.pointerReads s).a = s.a := by
  cases o <;> rfl
@[simp] theorem pointerReads_x : (o.pointerReads s).x = s.x := by
  cases o <;> rfl
@[simp] theorem pointerReads_y : (o.pointerReads s).y = s.y := by
  cases o <;> rfl
@[simp] theorem pointerReads_sp : (o.pointerReads s).sp = s.sp := by
  cases o <;> rfl
@[simp] theorem pointerReads_pc : (o.pointerReads s).pc = s.pc := by
  cases o <;> rfl
@[simp] theorem pointerReads_n : (o.pointerReads s).n = s.n := by
  cases o <;> rfl
@[simp] theorem pointerReads_v : (o.pointerReads s).v = s.v := by
  cases o <;> rfl
@[simp] theorem pointerReads_d : (o.pointerReads s).d = s.d := by
  cases o <;> rfl
@[simp] theorem pointerReads_i : (o.pointerReads s).i = s.i := by
  cases o <;> rfl
@[simp] theorem pointerReads_z : (o.pointerReads s).z = s.z := by
  cases o <;> rfl
@[simp] theorem pointerReads_c : (o.pointerReads s).c = s.c := by
  cases o <;> rfl
@[simp] theorem pointerReads_mem : (o.pointerReads s).mem = s.mem := by
  cases o <;> rfl
@[simp] theorem pointerReads_halt : (o.pointerReads s).halt = s.halt := by
  cases o <;> rfl
@[simp] theorem pointerReads_irqLine : (o.pointerReads s).irqLine = s.irqLine := by
  cases o <;> rfl
@[simp] theorem pointerReads_nmiLatch : (o.pointerReads s).nmiLatch = s.nmiLatch := by
  cases o <;> rfl
@[simp] theorem pointerReads_draws : (o.pointerReads s).draws = s.draws := by
  cases o <;> rfl
@[simp] theorem pointerReads_config : (o.pointerReads s).config = s.config := by
  cases o <;> rfl
@[simp] theorem pointerReads_load (adr : Word) :
    (o.pointerReads s).load adr = s.load adr := by
  simp [State.load]

end

section
variable (o : MemOperand) (s : State)

@[simp] theorem fixupOnCross_a : (o.fixupOnCross s).a = s.a := by
  unfold MemOperand.fixupOnCross; (repeat' split) <;> rfl
@[simp] theorem fixupOnCross_x : (o.fixupOnCross s).x = s.x := by
  unfold MemOperand.fixupOnCross; (repeat' split) <;> rfl
@[simp] theorem fixupOnCross_y : (o.fixupOnCross s).y = s.y := by
  unfold MemOperand.fixupOnCross; (repeat' split) <;> rfl
@[simp] theorem fixupOnCross_sp : (o.fixupOnCross s).sp = s.sp := by
  unfold MemOperand.fixupOnCross; (repeat' split) <;> rfl
@[simp] theorem fixupOnCross_pc : (o.fixupOnCross s).pc = s.pc := by
  unfold MemOperand.fixupOnCross; (repeat' split) <;> rfl
@[simp] theorem fixupOnCross_n : (o.fixupOnCross s).n = s.n := by
  unfold MemOperand.fixupOnCross; (repeat' split) <;> rfl
@[simp] theorem fixupOnCross_v : (o.fixupOnCross s).v = s.v := by
  unfold MemOperand.fixupOnCross; (repeat' split) <;> rfl
@[simp] theorem fixupOnCross_d : (o.fixupOnCross s).d = s.d := by
  unfold MemOperand.fixupOnCross; (repeat' split) <;> rfl
@[simp] theorem fixupOnCross_i : (o.fixupOnCross s).i = s.i := by
  unfold MemOperand.fixupOnCross; (repeat' split) <;> rfl
@[simp] theorem fixupOnCross_z : (o.fixupOnCross s).z = s.z := by
  unfold MemOperand.fixupOnCross; (repeat' split) <;> rfl
@[simp] theorem fixupOnCross_c : (o.fixupOnCross s).c = s.c := by
  unfold MemOperand.fixupOnCross; (repeat' split) <;> rfl
@[simp] theorem fixupOnCross_mem : (o.fixupOnCross s).mem = s.mem := by
  unfold MemOperand.fixupOnCross; (repeat' split) <;> rfl
@[simp] theorem fixupOnCross_halt : (o.fixupOnCross s).halt = s.halt := by
  unfold MemOperand.fixupOnCross; (repeat' split) <;> rfl
@[simp] theorem fixupOnCross_irqLine : (o.fixupOnCross s).irqLine = s.irqLine := by
  unfold MemOperand.fixupOnCross; (repeat' split) <;> rfl
@[simp] theorem fixupOnCross_nmiLatch : (o.fixupOnCross s).nmiLatch = s.nmiLatch := by
  unfold MemOperand.fixupOnCross; (repeat' split) <;> rfl
@[simp] theorem fixupOnCross_draws : (o.fixupOnCross s).draws = s.draws := by
  unfold MemOperand.fixupOnCross; (repeat' split) <;> rfl
@[simp] theorem fixupOnCross_config : (o.fixupOnCross s).config = s.config := by
  unfold MemOperand.fixupOnCross; (repeat' split) <;> rfl
@[simp] theorem fixupOnCross_load (adr : Word) :
    (o.fixupOnCross s).load adr = s.load adr := by
  simp [State.load]

end

section
variable (o : MemOperand) (s : State)

@[simp] theorem fixupAlways_a : (o.fixupAlways s).a = s.a := by
  unfold MemOperand.fixupAlways; split <;> rfl
@[simp] theorem fixupAlways_x : (o.fixupAlways s).x = s.x := by
  unfold MemOperand.fixupAlways; split <;> rfl
@[simp] theorem fixupAlways_y : (o.fixupAlways s).y = s.y := by
  unfold MemOperand.fixupAlways; split <;> rfl
@[simp] theorem fixupAlways_sp : (o.fixupAlways s).sp = s.sp := by
  unfold MemOperand.fixupAlways; split <;> rfl
@[simp] theorem fixupAlways_pc : (o.fixupAlways s).pc = s.pc := by
  unfold MemOperand.fixupAlways; split <;> rfl
@[simp] theorem fixupAlways_n : (o.fixupAlways s).n = s.n := by
  unfold MemOperand.fixupAlways; split <;> rfl
@[simp] theorem fixupAlways_v : (o.fixupAlways s).v = s.v := by
  unfold MemOperand.fixupAlways; split <;> rfl
@[simp] theorem fixupAlways_d : (o.fixupAlways s).d = s.d := by
  unfold MemOperand.fixupAlways; split <;> rfl
@[simp] theorem fixupAlways_i : (o.fixupAlways s).i = s.i := by
  unfold MemOperand.fixupAlways; split <;> rfl
@[simp] theorem fixupAlways_z : (o.fixupAlways s).z = s.z := by
  unfold MemOperand.fixupAlways; split <;> rfl
@[simp] theorem fixupAlways_c : (o.fixupAlways s).c = s.c := by
  unfold MemOperand.fixupAlways; split <;> rfl
@[simp] theorem fixupAlways_mem : (o.fixupAlways s).mem = s.mem := by
  unfold MemOperand.fixupAlways; split <;> rfl
@[simp] theorem fixupAlways_halt : (o.fixupAlways s).halt = s.halt := by
  unfold MemOperand.fixupAlways; split <;> rfl
@[simp] theorem fixupAlways_irqLine : (o.fixupAlways s).irqLine = s.irqLine := by
  unfold MemOperand.fixupAlways; split <;> rfl
@[simp] theorem fixupAlways_nmiLatch : (o.fixupAlways s).nmiLatch = s.nmiLatch := by
  unfold MemOperand.fixupAlways; split <;> rfl
@[simp] theorem fixupAlways_draws : (o.fixupAlways s).draws = s.draws := by
  unfold MemOperand.fixupAlways; split <;> rfl
@[simp] theorem fixupAlways_config : (o.fixupAlways s).config = s.config := by
  unfold MemOperand.fixupAlways; split <;> rfl
@[simp] theorem fixupAlways_load (adr : Word) :
    (o.fixupAlways s).load adr = s.load adr := by
  simp [State.load]

end

section
variable (o : MemOperand) (s : State)

@[simp] theorem readAccesses_a : (o.readAccesses s).a = s.a := by
  simp [MemOperand.readAccesses]
@[simp] theorem readAccesses_x : (o.readAccesses s).x = s.x := by
  simp [MemOperand.readAccesses]
@[simp] theorem readAccesses_y : (o.readAccesses s).y = s.y := by
  simp [MemOperand.readAccesses]
@[simp] theorem readAccesses_sp : (o.readAccesses s).sp = s.sp := by
  simp [MemOperand.readAccesses]
@[simp] theorem readAccesses_pc : (o.readAccesses s).pc = s.pc := by
  simp [MemOperand.readAccesses]
@[simp] theorem readAccesses_n : (o.readAccesses s).n = s.n := by
  simp [MemOperand.readAccesses]
@[simp] theorem readAccesses_v : (o.readAccesses s).v = s.v := by
  simp [MemOperand.readAccesses]
@[simp] theorem readAccesses_d : (o.readAccesses s).d = s.d := by
  simp [MemOperand.readAccesses]
@[simp] theorem readAccesses_i : (o.readAccesses s).i = s.i := by
  simp [MemOperand.readAccesses]
@[simp] theorem readAccesses_z : (o.readAccesses s).z = s.z := by
  simp [MemOperand.readAccesses]
@[simp] theorem readAccesses_c : (o.readAccesses s).c = s.c := by
  simp [MemOperand.readAccesses]
@[simp] theorem readAccesses_mem : (o.readAccesses s).mem = s.mem := by
  simp [MemOperand.readAccesses]
@[simp] theorem readAccesses_halt : (o.readAccesses s).halt = s.halt := by
  simp [MemOperand.readAccesses]
@[simp] theorem readAccesses_irqLine : (o.readAccesses s).irqLine = s.irqLine := by
  simp [MemOperand.readAccesses]
@[simp] theorem readAccesses_nmiLatch : (o.readAccesses s).nmiLatch = s.nmiLatch := by
  simp [MemOperand.readAccesses]
@[simp] theorem readAccesses_draws : (o.readAccesses s).draws = s.draws := by
  simp [MemOperand.readAccesses]
@[simp] theorem readAccesses_config : (o.readAccesses s).config = s.config := by
  simp [MemOperand.readAccesses]
@[simp] theorem readAccesses_load (adr : Word) :
    (o.readAccesses s).load adr = s.load adr := by
  simp [State.load]

end

/-- An effective address reads `X`, `Y` and memory only (`40_addressing_modes.md` R134). -/
theorem ea_congr (o : MemOperand) (s t : State) (hx : t.x = s.x) (hy : t.y = s.y)
    (hl : ∀ adr, t.load adr = s.load adr) : o.ea t = o.ea s := by
  cases o <;> simp [MemOperand.ea, indxPointer, indyPointer, hx, hy, hl]

/-- A `write` stores one byte, at the effective address, and touches no register (`00_scope.md` R10). -/
theorem store_load (o : MemOperand) (w : Byte) (s : State) (adr : Word) :
    (o.store w s).load adr = if adr = o.ea s then w else s.load adr := by
  simp [MemOperand.store]

section
variable (o : MemOperand) (w : Byte) (s : State)

@[simp] theorem store_a : (o.store w s).a = s.a := by
  simp [MemOperand.store]
@[simp] theorem store_x : (o.store w s).x = s.x := by
  simp [MemOperand.store]
@[simp] theorem store_y : (o.store w s).y = s.y := by
  simp [MemOperand.store]
@[simp] theorem store_sp : (o.store w s).sp = s.sp := by
  simp [MemOperand.store]
@[simp] theorem store_pc : (o.store w s).pc = s.pc := by
  simp [MemOperand.store]
@[simp] theorem store_n : (o.store w s).n = s.n := by
  simp [MemOperand.store]
@[simp] theorem store_v : (o.store w s).v = s.v := by
  simp [MemOperand.store]
@[simp] theorem store_d : (o.store w s).d = s.d := by
  simp [MemOperand.store]
@[simp] theorem store_i : (o.store w s).i = s.i := by
  simp [MemOperand.store]
@[simp] theorem store_z : (o.store w s).z = s.z := by
  simp [MemOperand.store]
@[simp] theorem store_c : (o.store w s).c = s.c := by
  simp [MemOperand.store]
@[simp] theorem store_halt : (o.store w s).halt = s.halt := by
  simp [MemOperand.store]
@[simp] theorem store_irqLine : (o.store w s).irqLine = s.irqLine := by
  simp [MemOperand.store]
@[simp] theorem store_nmiLatch : (o.store w s).nmiLatch = s.nmiLatch := by
  simp [MemOperand.store]
@[simp] theorem store_draws : (o.store w s).draws = s.draws := by
  simp [MemOperand.store]
@[simp] theorem store_config : (o.store w s).config = s.config := by
  simp [MemOperand.store]
@[simp] theorem store_mem : (o.store w s).mem = s.mem.write (o.ea s).toNat w := by
  simp [MemOperand.store]

theorem store_wf (h : s.mem.wf) : (o.store w s).mem.wf := by
  rw [store_mem]; exact Memory.write_wf h (o.ea s).isLt

end

/-! ### Read-modify-write -/

section
variable (o : MemOperand) (s : State)

@[simp] theorem dummyWritten_a : (o.dummyWritten s).a = s.a := by
  simp [MemOperand.dummyWritten]
@[simp] theorem dummyWritten_x : (o.dummyWritten s).x = s.x := by
  simp [MemOperand.dummyWritten]
@[simp] theorem dummyWritten_y : (o.dummyWritten s).y = s.y := by
  simp [MemOperand.dummyWritten]
@[simp] theorem dummyWritten_sp : (o.dummyWritten s).sp = s.sp := by
  simp [MemOperand.dummyWritten]
@[simp] theorem dummyWritten_pc : (o.dummyWritten s).pc = s.pc := by
  simp [MemOperand.dummyWritten]
@[simp] theorem dummyWritten_n : (o.dummyWritten s).n = s.n := by
  simp [MemOperand.dummyWritten]
@[simp] theorem dummyWritten_v : (o.dummyWritten s).v = s.v := by
  simp [MemOperand.dummyWritten]
@[simp] theorem dummyWritten_d : (o.dummyWritten s).d = s.d := by
  simp [MemOperand.dummyWritten]
@[simp] theorem dummyWritten_i : (o.dummyWritten s).i = s.i := by
  simp [MemOperand.dummyWritten]
@[simp] theorem dummyWritten_z : (o.dummyWritten s).z = s.z := by
  simp [MemOperand.dummyWritten]
@[simp] theorem dummyWritten_c : (o.dummyWritten s).c = s.c := by
  simp [MemOperand.dummyWritten]
@[simp] theorem dummyWritten_halt : (o.dummyWritten s).halt = s.halt := by
  simp [MemOperand.dummyWritten]
@[simp] theorem dummyWritten_irqLine : (o.dummyWritten s).irqLine = s.irqLine := by
  simp [MemOperand.dummyWritten]
@[simp] theorem dummyWritten_nmiLatch : (o.dummyWritten s).nmiLatch = s.nmiLatch := by
  simp [MemOperand.dummyWritten]
@[simp] theorem dummyWritten_draws : (o.dummyWritten s).draws = s.draws := by
  simp [MemOperand.dummyWritten]
@[simp] theorem dummyWritten_config : (o.dummyWritten s).config = s.config := by
  simp [MemOperand.dummyWritten]
/-- Storing the unmodified byte back changes no byte (`20_memory.md` R68). -/
@[simp] theorem dummyWritten_load (adr : Word) :
    (o.dummyWritten s).load adr = s.load adr := by
  simp only [MemOperand.dummyWritten, State.busWrite_load, State.busRead_load, fixupAlways_load,
    pointerReads_load, MemOperand.value]
  split <;> simp_all

theorem dummyWritten_wf (h : s.mem.wf) : (o.dummyWritten s).mem.wf :=
  State.busWrite_wf _ _ _ (by simpa using h)

end

/-- A read-modify-write stores the byte of its function at the effective address and changes no other
byte (`20_memory.md` R68). -/
theorem rmw_load (o : MemOperand) (f : Byte → State → Byte × State) (s : State) (adr : Word)
    (hf : ∀ w t p, (f w t).2.load p = t.load p) :
    (o.rmw f s).load adr =
      if adr = o.ea s then (f (o.value s) (o.dummyWritten s)).1 else s.load adr := by
  simp [MemOperand.rmw, hf]

theorem rmw_wf (o : MemOperand) (f : Byte → State → Byte × State) (s : State) (h : s.mem.wf)
    (hf : ∀ w t, (f w t).2.mem = t.mem) : (o.rmw f s).mem.wf :=
  State.busWrite_wf _ _ _ (by rw [hf]; exact dummyWritten_wf o s h)

/-! ### A branch changes `PC`, the clock and the record of the bus only (`43_branches_jumps.md` R160) -/

theorem branch_next (cond : Bool) (off : Byte) (s : State) :
    ∃ cyc bus, branch cond off s =
      .next { s with
        pc := if cond then branchTarget off s else s.pc, cycles := cyc, bus := bus } := by
  unfold branch
  cases cond
  · exact ⟨s.cycles, s.bus, rfl⟩
  · simp only [if_true]
    split
    · exact ⟨_, _, rfl⟩
    · exact ⟨_, _, rfl⟩

end Sys2Proof.Machine
end

