-- ==== Sys2Proof/Laws/PerInstr.lean ====
section
/-! SUPPORT. One law per constructor of `Instr` about its form: its mnemonic and mode are a pair of
`40_addressing_modes.md` R136, and its encoding has the length of its mode (`30_encoding.md` R92). -/

namespace Sys2Proof.Laws.Form

/-- The pair is one of R136 and the encoding has the mode's length (R92). -/
def Statement (i : Instr) : Prop := i.WellFormed ∧ (encode i).length = i.length

theorem adcIm (m : Byte) : Statement (.adcIm m) :=
  ⟨of_decide_eq_true rfl, rfl⟩
theorem adcZp (l : Byte) : Statement (.adcZp l) :=
  ⟨of_decide_eq_true rfl, rfl⟩
theorem adcZpx (l : Byte) : Statement (.adcZpx l) :=
  ⟨of_decide_eq_true rfl, rfl⟩
theorem adcAbs (w : Word) : Statement (.adcAbs w) :=
  ⟨of_decide_eq_true rfl, rfl⟩
theorem adcAbsx (w : Word) : Statement (.adcAbsx w) :=
  ⟨of_decide_eq_true rfl, rfl⟩
theorem adcAbsy (w : Word) : Statement (.adcAbsy w) :=
  ⟨of_decide_eq_true rfl, rfl⟩
theorem adcIndx (l : Byte) : Statement (.adcIndx l) :=
  ⟨of_decide_eq_true rfl, rfl⟩
theorem adcIndy (l : Byte) : Statement (.adcIndy l) :=
  ⟨of_decide_eq_true rfl, rfl⟩
theorem sbcIm (m : Byte) : Statement (.sbcIm m) :=
  ⟨of_decide_eq_true rfl, rfl⟩
theorem sbcZp (l : Byte) : Statement (.sbcZp l) :=
  ⟨of_decide_eq_true rfl, rfl⟩
theorem sbcZpx (l : Byte) : Statement (.sbcZpx l) :=
  ⟨of_decide_eq_true rfl, rfl⟩
theorem sbcAbs (w : Word) : Statement (.sbcAbs w) :=
  ⟨of_decide_eq_true rfl, rfl⟩
theorem sbcAbsx (w : Word) : Statement (.sbcAbsx w) :=
  ⟨of_decide_eq_true rfl, rfl⟩
theorem sbcAbsy (w : Word) : Statement (.sbcAbsy w) :=
  ⟨of_decide_eq_true rfl, rfl⟩
theorem sbcIndx (l : Byte) : Statement (.sbcIndx l) :=
  ⟨of_decide_eq_true rfl, rfl⟩
theorem sbcIndy (l : Byte) : Statement (.sbcIndy l) :=
  ⟨of_decide_eq_true rfl, rfl⟩
theorem cmpIm (m : Byte) : Statement (.cmpIm m) :=
  ⟨of_decide_eq_true rfl, rfl⟩
theorem cmpZp (l : Byte) : Statement (.cmpZp l) :=
  ⟨of_decide_eq_true rfl, rfl⟩
theorem cmpZpx (l : Byte) : Statement (.cmpZpx l) :=
  ⟨of_decide_eq_true rfl, rfl⟩
theorem cmpAbs (w : Word) : Statement (.cmpAbs w) :=
  ⟨of_decide_eq_true rfl, rfl⟩
theorem cmpAbsx (w : Word) : Statement (.cmpAbsx w) :=
  ⟨of_decide_eq_true rfl, rfl⟩
theorem cmpAbsy (w : Word) : Statement (.cmpAbsy w) :=
  ⟨of_decide_eq_true rfl, rfl⟩
theorem cmpIndx (l : Byte) : Statement (.cmpIndx l) :=
  ⟨of_decide_eq_true rfl, rfl⟩
theorem cmpIndy (l : Byte) : Statement (.cmpIndy l) :=
  ⟨of_decide_eq_true rfl, rfl⟩
theorem cpxIm (m : Byte) : Statement (.cpxIm m) :=
  ⟨of_decide_eq_true rfl, rfl⟩
theorem cpxZp (l : Byte) : Statement (.cpxZp l) :=
  ⟨of_decide_eq_true rfl, rfl⟩
theorem cpxAbs (w : Word) : Statement (.cpxAbs w) :=
  ⟨of_decide_eq_true rfl, rfl⟩
theorem cpyIm (m : Byte) : Statement (.cpyIm m) :=
  ⟨of_decide_eq_true rfl, rfl⟩
theorem cpyZp (l : Byte) : Statement (.cpyZp l) :=
  ⟨of_decide_eq_true rfl, rfl⟩
theorem cpyAbs (w : Word) : Statement (.cpyAbs w) :=
  ⟨of_decide_eq_true rfl, rfl⟩
theorem aslAcc : Statement .aslAcc :=
  ⟨of_decide_eq_true rfl, rfl⟩
theorem aslZp (l : Byte) : Statement (.aslZp l) :=
  ⟨of_decide_eq_true rfl, rfl⟩
theorem aslZpx (l : Byte) : Statement (.aslZpx l) :=
  ⟨of_decide_eq_true rfl, rfl⟩
theorem aslAbs (w : Word) : Statement (.aslAbs w) :=
  ⟨of_decide_eq_true rfl, rfl⟩
theorem aslAbsx (w : Word) : Statement (.aslAbsx w) :=
  ⟨of_decide_eq_true rfl, rfl⟩
theorem lsrAcc : Statement .lsrAcc :=
  ⟨of_decide_eq_true rfl, rfl⟩
theorem lsrZp (l : Byte) : Statement (.lsrZp l) :=
  ⟨of_decide_eq_true rfl, rfl⟩
theorem lsrZpx (l : Byte) : Statement (.lsrZpx l) :=
  ⟨of_decide_eq_true rfl, rfl⟩
theorem lsrAbs (w : Word) : Statement (.lsrAbs w) :=
  ⟨of_decide_eq_true rfl, rfl⟩
theorem lsrAbsx (w : Word) : Statement (.lsrAbsx w) :=
  ⟨of_decide_eq_true rfl, rfl⟩
theorem rolAcc : Statement .rolAcc :=
  ⟨of_decide_eq_true rfl, rfl⟩
theorem rolZp (l : Byte) : Statement (.rolZp l) :=
  ⟨of_decide_eq_true rfl, rfl⟩
theorem rolZpx (l : Byte) : Statement (.rolZpx l) :=
  ⟨of_decide_eq_true rfl, rfl⟩
theorem rolAbs (w : Word) : Statement (.rolAbs w) :=
  ⟨of_decide_eq_true rfl, rfl⟩
theorem rolAbsx (w : Word) : Statement (.rolAbsx w) :=
  ⟨of_decide_eq_true rfl, rfl⟩
theorem rorAcc : Statement .rorAcc :=
  ⟨of_decide_eq_true rfl, rfl⟩
theorem rorZp (l : Byte) : Statement (.rorZp l) :=
  ⟨of_decide_eq_true rfl, rfl⟩
theorem rorZpx (l : Byte) : Statement (.rorZpx l) :=
  ⟨of_decide_eq_true rfl, rfl⟩
theorem rorAbs (w : Word) : Statement (.rorAbs w) :=
  ⟨of_decide_eq_true rfl, rfl⟩
theorem rorAbsx (w : Word) : Statement (.rorAbsx w) :=
  ⟨of_decide_eq_true rfl, rfl⟩
theorem bpl (off : Byte) : Statement (.bpl off) :=
  ⟨of_decide_eq_true rfl, rfl⟩
theorem bmi (off : Byte) : Statement (.bmi off) :=
  ⟨of_decide_eq_true rfl, rfl⟩
theorem bvc (off : Byte) : Statement (.bvc off) :=
  ⟨of_decide_eq_true rfl, rfl⟩
theorem bvs (off : Byte) : Statement (.bvs off) :=
  ⟨of_decide_eq_true rfl, rfl⟩
theorem bcc (off : Byte) : Statement (.bcc off) :=
  ⟨of_decide_eq_true rfl, rfl⟩
theorem bcs (off : Byte) : Statement (.bcs off) :=
  ⟨of_decide_eq_true rfl, rfl⟩
theorem bne (off : Byte) : Statement (.bne off) :=
  ⟨of_decide_eq_true rfl, rfl⟩
theorem beq (off : Byte) : Statement (.beq off) :=
  ⟨of_decide_eq_true rfl, rfl⟩
theorem jmpAbs (target : Word) : Statement (.jmpAbs target) :=
  ⟨of_decide_eq_true rfl, rfl⟩
theorem jmpAbsInd (ptr : Word) : Statement (.jmpAbsInd ptr) :=
  ⟨of_decide_eq_true rfl, rfl⟩
theorem pha : Statement .pha :=
  ⟨of_decide_eq_true rfl, rfl⟩
theorem php : Statement .php :=
  ⟨of_decide_eq_true rfl, rfl⟩
theorem pla : Statement .pla :=
  ⟨of_decide_eq_true rfl, rfl⟩
theorem plp : Statement .plp :=
  ⟨of_decide_eq_true rfl, rfl⟩
theorem jsr (target : Word) : Statement (.jsr target) :=
  ⟨of_decide_eq_true rfl, rfl⟩
theorem rts : Statement .rts :=
  ⟨of_decide_eq_true rfl, rfl⟩
theorem brk : Statement .brk :=
  ⟨of_decide_eq_true rfl, rfl⟩
theorem rti : Statement .rti :=
  ⟨of_decide_eq_true rfl, rfl⟩
theorem ldaIm (m : Byte) : Statement (.ldaIm m) :=
  ⟨of_decide_eq_true rfl, rfl⟩
theorem ldaZp (l : Byte) : Statement (.ldaZp l) :=
  ⟨of_decide_eq_true rfl, rfl⟩
theorem ldaZpx (l : Byte) : Statement (.ldaZpx l) :=
  ⟨of_decide_eq_true rfl, rfl⟩
theorem ldaAbs (w : Word) : Statement (.ldaAbs w) :=
  ⟨of_decide_eq_true rfl, rfl⟩
theorem ldaAbsx (w : Word) : Statement (.ldaAbsx w) :=
  ⟨of_decide_eq_true rfl, rfl⟩
theorem ldaAbsy (w : Word) : Statement (.ldaAbsy w) :=
  ⟨of_decide_eq_true rfl, rfl⟩
theorem ldaIndx (l : Byte) : Statement (.ldaIndx l) :=
  ⟨of_decide_eq_true rfl, rfl⟩
theorem ldaIndy (l : Byte) : Statement (.ldaIndy l) :=
  ⟨of_decide_eq_true rfl, rfl⟩
theorem ldxIm (m : Byte) : Statement (.ldxIm m) :=
  ⟨of_decide_eq_true rfl, rfl⟩
theorem ldxZp (l : Byte) : Statement (.ldxZp l) :=
  ⟨of_decide_eq_true rfl, rfl⟩
theorem ldxZpy (l : Byte) : Statement (.ldxZpy l) :=
  ⟨of_decide_eq_true rfl, rfl⟩
theorem ldxAbs (w : Word) : Statement (.ldxAbs w) :=
  ⟨of_decide_eq_true rfl, rfl⟩
theorem ldxAbsy (w : Word) : Statement (.ldxAbsy w) :=
  ⟨of_decide_eq_true rfl, rfl⟩
theorem ldyIm (m : Byte) : Statement (.ldyIm m) :=
  ⟨of_decide_eq_true rfl, rfl⟩
theorem ldyZp (l : Byte) : Statement (.ldyZp l) :=
  ⟨of_decide_eq_true rfl, rfl⟩
theorem ldyZpx (l : Byte) : Statement (.ldyZpx l) :=
  ⟨of_decide_eq_true rfl, rfl⟩
theorem ldyAbs (w : Word) : Statement (.ldyAbs w) :=
  ⟨of_decide_eq_true rfl, rfl⟩
theorem ldyAbsx (w : Word) : Statement (.ldyAbsx w) :=
  ⟨of_decide_eq_true rfl, rfl⟩
theorem staZp (l : Byte) : Statement (.staZp l) :=
  ⟨of_decide_eq_true rfl, rfl⟩
theorem staZpx (l : Byte) : Statement (.staZpx l) :=
  ⟨of_decide_eq_true rfl, rfl⟩
theorem staAbs (w : Word) : Statement (.staAbs w) :=
  ⟨of_decide_eq_true rfl, rfl⟩
theorem staAbsx (w : Word) : Statement (.staAbsx w) :=
  ⟨of_decide_eq_true rfl, rfl⟩
theorem staAbsy (w : Word) : Statement (.staAbsy w) :=
  ⟨of_decide_eq_true rfl, rfl⟩
theorem staIndx (l : Byte) : Statement (.staIndx l) :=
  ⟨of_decide_eq_true rfl, rfl⟩
theorem staIndy (l : Byte) : Statement (.staIndy l) :=
  ⟨of_decide_eq_true rfl, rfl⟩
theorem stxZp (l : Byte) : Statement (.stxZp l) :=
  ⟨of_decide_eq_true rfl, rfl⟩
theorem stxZpy (l : Byte) : Statement (.stxZpy l) :=
  ⟨of_decide_eq_true rfl, rfl⟩
theorem stxAbs (w : Word) : Statement (.stxAbs w) :=
  ⟨of_decide_eq_true rfl, rfl⟩
theorem styZp (l : Byte) : Statement (.styZp l) :=
  ⟨of_decide_eq_true rfl, rfl⟩
theorem styZpx (l : Byte) : Statement (.styZpx l) :=
  ⟨of_decide_eq_true rfl, rfl⟩
theorem styAbs (w : Word) : Statement (.styAbs w) :=
  ⟨of_decide_eq_true rfl, rfl⟩
theorem tax : Statement .tax :=
  ⟨of_decide_eq_true rfl, rfl⟩
theorem tay : Statement .tay :=
  ⟨of_decide_eq_true rfl, rfl⟩
theorem txa : Statement .txa :=
  ⟨of_decide_eq_true rfl, rfl⟩
theorem tya : Statement .tya :=
  ⟨of_decide_eq_true rfl, rfl⟩
theorem tsx : Statement .tsx :=
  ⟨of_decide_eq_true rfl, rfl⟩
theorem txs : Statement .txs :=
  ⟨of_decide_eq_true rfl, rfl⟩
theorem andIm (m : Byte) : Statement (.andIm m) :=
  ⟨of_decide_eq_true rfl, rfl⟩
theorem andZp (l : Byte) : Statement (.andZp l) :=
  ⟨of_decide_eq_true rfl, rfl⟩
theorem andZpx (l : Byte) : Statement (.andZpx l) :=
  ⟨of_decide_eq_true rfl, rfl⟩
theorem andAbs (w : Word) : Statement (.andAbs w) :=
  ⟨of_decide_eq_true rfl, rfl⟩
theorem andAbsx (w : Word) : Statement (.andAbsx w) :=
  ⟨of_decide_eq_true rfl, rfl⟩
theorem andAbsy (w : Word) : Statement (.andAbsy w) :=
  ⟨of_decide_eq_true rfl, rfl⟩
theorem andIndx (l : Byte) : Statement (.andIndx l) :=
  ⟨of_decide_eq_true rfl, rfl⟩
theorem andIndy (l : Byte) : Statement (.andIndy l) :=
  ⟨of_decide_eq_true rfl, rfl⟩
theorem oraIm (m : Byte) : Statement (.oraIm m) :=
  ⟨of_decide_eq_true rfl, rfl⟩
theorem oraZp (l : Byte) : Statement (.oraZp l) :=
  ⟨of_decide_eq_true rfl, rfl⟩
theorem oraZpx (l : Byte) : Statement (.oraZpx l) :=
  ⟨of_decide_eq_true rfl, rfl⟩
theorem oraAbs (w : Word) : Statement (.oraAbs w) :=
  ⟨of_decide_eq_true rfl, rfl⟩
theorem oraAbsx (w : Word) : Statement (.oraAbsx w) :=
  ⟨of_decide_eq_true rfl, rfl⟩
theorem oraAbsy (w : Word) : Statement (.oraAbsy w) :=
  ⟨of_decide_eq_true rfl, rfl⟩
theorem oraIndx (l : Byte) : Statement (.oraIndx l) :=
  ⟨of_decide_eq_true rfl, rfl⟩
theorem oraIndy (l : Byte) : Statement (.oraIndy l) :=
  ⟨of_decide_eq_true rfl, rfl⟩
theorem eorIm (m : Byte) : Statement (.eorIm m) :=
  ⟨of_decide_eq_true rfl, rfl⟩
theorem eorZp (l : Byte) : Statement (.eorZp l) :=
  ⟨of_decide_eq_true rfl, rfl⟩
theorem eorZpx (l : Byte) : Statement (.eorZpx l) :=
  ⟨of_decide_eq_true rfl, rfl⟩
theorem eorAbs (w : Word) : Statement (.eorAbs w) :=
  ⟨of_decide_eq_true rfl, rfl⟩
theorem eorAbsx (w : Word) : Statement (.eorAbsx w) :=
  ⟨of_decide_eq_true rfl, rfl⟩
theorem eorAbsy (w : Word) : Statement (.eorAbsy w) :=
  ⟨of_decide_eq_true rfl, rfl⟩
theorem eorIndx (l : Byte) : Statement (.eorIndx l) :=
  ⟨of_decide_eq_true rfl, rfl⟩
theorem eorIndy (l : Byte) : Statement (.eorIndy l) :=
  ⟨of_decide_eq_true rfl, rfl⟩
theorem bitZp (l : Byte) : Statement (.bitZp l) :=
  ⟨of_decide_eq_true rfl, rfl⟩
theorem bitAbs (w : Word) : Statement (.bitAbs w) :=
  ⟨of_decide_eq_true rfl, rfl⟩
theorem incZp (l : Byte) : Statement (.incZp l) :=
  ⟨of_decide_eq_true rfl, rfl⟩
theorem incZpx (l : Byte) : Statement (.incZpx l) :=
  ⟨of_decide_eq_true rfl, rfl⟩
theorem incAbs (w : Word) : Statement (.incAbs w) :=
  ⟨of_decide_eq_true rfl, rfl⟩
theorem incAbsx (w : Word) : Statement (.incAbsx w) :=
  ⟨of_decide_eq_true rfl, rfl⟩
theorem decZp (l : Byte) : Statement (.decZp l) :=
  ⟨of_decide_eq_true rfl, rfl⟩
theorem decZpx (l : Byte) : Statement (.decZpx l) :=
  ⟨of_decide_eq_true rfl, rfl⟩
theorem decAbs (w : Word) : Statement (.decAbs w) :=
  ⟨of_decide_eq_true rfl, rfl⟩
theorem decAbsx (w : Word) : Statement (.decAbsx w) :=
  ⟨of_decide_eq_true rfl, rfl⟩
theorem inx : Statement .inx :=
  ⟨of_decide_eq_true rfl, rfl⟩
theorem iny : Statement .iny :=
  ⟨of_decide_eq_true rfl, rfl⟩
theorem dex : Statement .dex :=
  ⟨of_decide_eq_true rfl, rfl⟩
theorem dey : Statement .dey :=
  ⟨of_decide_eq_true rfl, rfl⟩
theorem clc : Statement .clc :=
  ⟨of_decide_eq_true rfl, rfl⟩
theorem sec : Statement .sec :=
  ⟨of_decide_eq_true rfl, rfl⟩
theorem cli : Statement .cli :=
  ⟨of_decide_eq_true rfl, rfl⟩
theorem sei : Statement .sei :=
  ⟨of_decide_eq_true rfl, rfl⟩
theorem cld : Statement .cld :=
  ⟨of_decide_eq_true rfl, rfl⟩
theorem sed : Statement .sed :=
  ⟨of_decide_eq_true rfl, rfl⟩
theorem clv : Statement .clv :=
  ⟨of_decide_eq_true rfl, rfl⟩
theorem nop : Statement .nop :=
  ⟨of_decide_eq_true rfl, rfl⟩

end Sys2Proof.Laws.Form
end

