-- ==== Sys2Proof/Laws/Stack.lean ====
section
/-! SUPPORT. Addresses in the stack page (`10_state.md` R24, R26), the three bytes and the new `PC` an
interrupt entry leaves (`60_exceptions.md` R259), and the bits of the pushed status byte (R33). -/

namespace Sys2Proof.Machine

theorem mkWord_toNat (h l : Byte) : (mkWord h l).toNat = 256 * h.toNat + l.toNat := by
  unfold mkWord
  rw [BitVec.toNat_append, ← Nat.shiftLeft_add_eq_or_of_lt l.isLt]
  simp [Nat.shiftLeft_eq]
  omega

/-- "The stack occupies addresses `0x0100` to `0x01FF` and nothing else" (R24). -/
theorem stackAddr_toNat (offset : Byte) : (stackAddr offset).toNat = 256 + offset.toNat := by
  simp [stackAddr, mkWord_toNat]

theorem stackAddr_inj {p q : Byte} : stackAddr p = stackAddr q ↔ p = q := by
  refine ⟨fun h => ?_, fun h => h ▸ rfl⟩
  have := congrArg BitVec.toNat h
  rw [stackAddr_toNat, stackAddr_toNat] at this
  exact BitVec.eq_of_toNat_eq (by omega)

/-- No address from page 2 up is on the stack. -/
theorem ne_stackAddr {adr : Word} (h : 512 ≤ adr.toNat) (offset : Byte) : adr ≠ stackAddr offset := by
  rintro rfl
  rw [stackAddr_toNat] at h
  omega

section
variable (s : State) (ret : Word) (b : Bool) (vec : Word)

/-- What memory holds after an interrupt entry, address by address. -/
theorem State.enterInterrupt_load (adr : Word) :
    (s.enterInterrupt ret b vec).load adr =
      if adr = stackAddr s.sp then hi ret
      else if adr = stackAddr (s.sp - 1#8) then lo ret
      else if adr = stackAddr (s.sp - 2#8) then s.pByte b
      else s.load adr := by
  have two : s.sp - 1#8 - 1#8 = s.sp - 2#8 := by bv_omega
  have ne1 : s.sp ≠ s.sp - 1#8 := by bv_omega
  have ne2 : s.sp ≠ s.sp - 2#8 := by bv_omega
  have ne3 : s.sp - 1#8 ≠ s.sp - 2#8 := by bv_omega
  simp only [State.load, State.enterInterrupt_mem, load_write, two]
  by_cases h1 : adr = stackAddr s.sp
  · subst h1; simp [stackAddr_inj, ne1, ne2]
  · by_cases h2 : adr = stackAddr (s.sp - 1#8)
    · subst h2; simp [stackAddr_inj, ne1.symm, ne3]
    · simp [h1, h2]

/-- `PC` after an interrupt entry: the vector's two bytes as they stood before the pushes, which do not
reach a vector above page 1. -/
theorem State.enterInterrupt_pc (h : 512 ≤ vec.toNat) (h' : 512 ≤ (vec + 1#16).toNat) :
    (s.enterInterrupt ret b vec).pc = mkWord (s.load (vec + 1#16)) (s.load vec) := by
  simp [State.enterInterrupt, ne_stackAddr h, ne_stackAddr h']

/-- The five accesses of an interrupt entry, in order. -/
theorem State.enterInterrupt_bus (h : 512 ≤ vec.toNat) (h' : 512 ≤ (vec + 1#16).toNat) :
    (s.enterInterrupt ret b vec).bus = s.bus ++
      [⟨.write, stackAddr s.sp, hi ret⟩, ⟨.write, stackAddr (s.sp - 1#8), lo ret⟩,
        ⟨.write, stackAddr (s.sp - 1#8 - 1#8), s.pByte b⟩, ⟨.read, vec, s.load vec⟩,
        ⟨.read, vec + 1#16, s.load (vec + 1#16)⟩] := by
  simp [State.enterInterrupt, ne_stackAddr h, ne_stackAddr h']

end

/-- `SetP` of a byte made from `P` gives `P` back, whatever its `B` bit (R33, R34). -/
theorem State.setP_pByte (s t : State) (b : Bool) :
    let u := t.setP (s.pByte b)
    u.n = s.n ∧ u.v = s.v ∧ u.d = s.d ∧ u.i = s.i ∧ u.z = s.z ∧ u.c = s.c := by
  have bits : ∀ n v b d i z c : Bool,
      let p := BitVec.ofNat 8 (n.toNat * 128 + v.toNat * 64 + 32 + b.toNat * 16
        + d.toNat * 8 + i.toNat * 4 + z.toNat * 2 + c.toNat)
      p.getLsbD 7 = n ∧ p.getLsbD 6 = v ∧ p.getLsbD 3 = d ∧ p.getLsbD 2 = i ∧
        p.getLsbD 1 = z ∧ p.getLsbD 0 = c := by decide
  exact bits s.n s.v b s.d s.i s.z s.c

end Sys2Proof.Machine
end

