-- ==== Sys2Proof/Laws/Step.lean ====
section
/-! SUPPORT. The accesses a step makes: the fetch of an instruction's bytes, and for each access kind the
lists of `Safety.lean`. -/

namespace Sys2Proof.Machine

open Sys2Proof.Laws (hi_mkWord lo_mkWord)

theorem State.fetch_bus (s : State) (k : Nat) : (s.fetch k).bus = s.bus ++ fetchLog s k := by
  induction k generalizing s with
  | zero => simp [State.fetch, fetchLog]
  | succ n ih =>
    simp [State.fetch, ih, fetchLog, List.range_succ_eq_map, List.map_map, rd]
    intro j _
    have succ : BitVec.ofNat 16 (j + 1) = 1#16 + BitVec.ofNat 16 j := by
      rw [BitVec.add_comm]; exact BitVec.ofNat_add j 1
    rw [succ, BitVec.add_assoc]
    simp

section
variable (i : Instr) (s : State)

@[simp] theorem fetchInstr_pc : (fetchInstr i s).pc = s.pc + BitVec.ofNat 16 i.length := by
  simp [fetchInstr]
@[simp] theorem fetchInstr_cycles : (fetchInstr i s).cycles = s.cycles + i.length := by
  simp [fetchInstr]
@[simp] theorem fetchInstr_bus : (fetchInstr i s).bus = fetchLog s i.length := by
  simp [fetchInstr, State.fetch_bus]; rfl
@[simp] theorem fetchInstr_mem : (fetchInstr i s).mem = s.mem := by simp [fetchInstr]
@[simp] theorem fetchInstr_halt : (fetchInstr i s).halt = s.halt := by simp [fetchInstr]
@[simp] theorem fetchInstr_config : (fetchInstr i s).config = s.config := by simp [fetchInstr]
@[simp] theorem fetchInstr_irqLine : (fetchInstr i s).irqLine = s.irqLine := by simp [fetchInstr]
@[simp] theorem fetchInstr_nmiLatch : (fetchInstr i s).nmiLatch = s.nmiLatch := by simp [fetchInstr]

end

/-- A running core at an instruction runs what the bytes at `PC` decode to. -/
theorem nextAction_run {s : State} {i : Instr} {rest : List Byte} (h : s.AtInstruction)
    (hd : decode s.codeBytes = .ok (i, rest)) : nextAction s = .run i := by
  obtain ⟨h1, h2, h3⟩ := h
  simp [nextAction, h1, h2, h3, hd]

/-! ### What a build admits -/

/-- A build admits no byte that none of its entries names. -/
theorem undocMode?_eq_none {c : Config} {b : Byte} (h : ∀ m, (b, m) ∉ c.undocNops) :
    undocMode? c b = none := by
  rw [undocMode?, List.lookup_eq_none_iff]
  rintro ⟨b', m⟩ hm
  refine bne_iff_ne.mpr ?_
  rintro rfl
  exact h m hm

/-- A build admits a byte in the mode of the one entry that names it. -/
theorem undocMode?_eq_some {c : Config} {b : Byte} {m : NopMode} (h : (b, m) ∈ c.undocNops)
    (one : ∀ m', (b, m') ∈ c.undocNops → m' = m) : undocMode? c b = some m := by
  cases e : undocMode? c b with
  | none => exact absurd (List.lookup_eq_none_iff.mp e (b, m) h) (by simp)
  | some m' =>
    obtain ⟨l₁, l₂, eq, -⟩ := List.lookup_eq_some_iff.mp e
    rw [one m' (by simp [eq])]

/-! ### The accesses of each kind -/

theorem readAccesses_bus (o : MemOperand) (s : State) :
    (o.readAccesses s).bus = s.bus ++ readLog o s := by
  cases o <;>
    simp [MemOperand.readAccesses, MemOperand.fixupOnCross, MemOperand.indexing?,
      MemOperand.pointerReads, readLog, rd, MemOperand.ea, pageCrossed, indxPointer, indyPointer,
      partialAddr]
  all_goals split <;> simp

theorem readAccesses_cycles (o : MemOperand) (s : State) :
    (o.readAccesses s).cycles = s.cycles + (readLog o s).length := by
  cases o <;>
    simp [MemOperand.readAccesses, MemOperand.fixupOnCross, MemOperand.indexing?,
      MemOperand.pointerReads, readLog, pageCrossed, indyPointer]
  all_goals split <;> simp [Nat.add_assoc]

/-- The access list of a `read` depends on `X`, `Y` and memory only. -/
theorem readLog_congr (o : MemOperand) (s t : State) (hx : t.x = s.x) (hy : t.y = s.y)
    (hl : ∀ adr, t.load adr = s.load adr) : readLog o t = readLog o s := by
  cases o <;> simp [readLog, rd, hx, hy, hl]

theorem fixupAlways_bus (o : MemOperand) (s : State) :
    (o.fixupAlways (o.pointerReads s)).bus = s.bus ++ approachLog o s := by
  cases o <;>
    simp [MemOperand.fixupAlways, MemOperand.indexing?, MemOperand.pointerReads, approachLog, rd,
      partialAddr, indyPointer]

theorem fixupAlways_cycles (o : MemOperand) (s : State) :
    (o.fixupAlways (o.pointerReads s)).cycles = s.cycles + (approachLog o s).length := by
  cases o <;>
    simp [MemOperand.fixupAlways, MemOperand.indexing?, MemOperand.pointerReads, approachLog]

end Sys2Proof.Machine
end

