-- ==== Sys2Proof/Tests/Slice0.lean ====
section
/-! SUPPORT. Tests whose expected results are the spec's own (`95_test_vectors.md`, the tables of
`30_encoding.md`), the smoke tests of WellFormed, and a witness for the hypotheses of every obligation
that has some. -/

namespace Sys2Proof.Tests

open Sys2Proof.Machine

/-! ### Helpers: a small state, and one step of it -/

/-- Memory of `95_test_vectors.md`'s vectors: all fill but the listed bytes. -/
def place (s : State) : List (Word × Byte) → State
  | [] => s
  | (a, b) :: rest => place { s with mem := s.mem.write a.toNat b } rest

/-- The code bytes from an address on. -/
def placeCode (s : State) (at' : Word) : List Byte → State
  | [] => s
  | b :: rest => placeCode { s with mem := s.mem.write at'.toNat b } (at' + 1#16) rest

/-- The start state of the vectors: registers and flags 0, `SP = FD`, `PC` at the code. -/
def start (pc : Word) (code : List Byte) (bytes : List (Word × Byte)) : State :=
  place (placeCode { State.reset with pc := pc, i := false, cycles := 0 } pc code) bytes

/-- The step answers a next state of which the check holds, and its clock counts its accesses. -/
def runs (s : State) (check : State → Bool) : Bool :=
  match step s with
  | .next t => check t && t.cycles == s.cycles + t.bus.length
  | _ => false

/-- The six flags in the order `N V D I Z C`. -/
def flags (s : State) : List Bool := [s.n, s.v, s.d, s.i, s.z, s.c]

/-- A read in an access list of the vectors. -/
def r (a : Word) (b : Byte) : BusAccess := ⟨.read, a, b⟩
/-- A write in an access list of the vectors. -/
def w (a : Word) (b : Byte) : BusAccess := ⟨.write, a, b⟩

/-! ### WellFormed: an ill-formed term for each check -/

/-- R136: a store has no immediate mode. -/
theorem test_wf_sta_im : ¬ validPair .sta .im := by decide
/-- R136: `LDX` is indexed by `Y` only. -/
theorem test_wf_ldx_absx : ¬ validPair .ldx .absx := by decide
/-- R136: `STX` has no mode `ABSY`. -/
theorem test_wf_stx_absy : ¬ validPair .stx .absy := by decide
/-- R136: `STY` has no mode `ABSX`. -/
theorem test_wf_sty_absx : ¬ validPair .sty .absx := by decide
/-- R136: `JMP` has no indexed indirect mode. -/
theorem test_wf_jmp_indx : ¬ validPair .jmp .indx := by decide
/-- R136: `INC` has no mode `ACC`. -/
theorem test_wf_inc_acc : ¬ validPair .inc .acc := by decide
/-- R136: `BIT` has no immediate mode. -/
theorem test_wf_bit_im : ¬ validPair .bit .im := by decide
/-- R136: every instruction of the table is a pair of it. -/
theorem test_wf_lda_indy : (Instr.ldaIndy 0x20).WellFormed := by decide
/-- R100: a documented byte is no member of `UNDOC_NOP_SET`. -/
theorem test_wf_config_documented :
    ¬ Config.wf { Config.decided with undocNops := [(0xEA, .imp)] } := by decide
/-- R100: a byte has one mode in `UNDOC_NOP_SET`. -/
theorem test_wf_config_repeated :
    ¬ Config.wf { Config.decided with undocNops := [(0x04, .zp), (0x04, .im)] } := by decide
/-- R6: the decided build is well-formed. -/
theorem test_wf_config_decided : Config.decided.wf := by decide

/-! ### Decoding: words written out from the encodings -/

/-- `ADC #$50` (R98, R141): `01101001 01010000`. -/
theorem test_decode_adc :
    decode [0b01101001, 0b01010000, 0xFF] = .ok (.adcIm 0x50, [0xFF]) := rfl
/-- `ROR $1234,X` (R98, R154): `01111110 00110100 00010010`, low byte first. -/
theorem test_decode_ror :
    decode [0b01111110, 0b00110100, 0b00010010] = .ok (.rorAbsx 0x1234, []) := rfl
/-- `BCS -2` (R98, R166): `10110000 11111110`. -/
theorem test_decode_bcs : decode [0b10110000, 0b11111110] = .ok (.bcs 0xFE, []) := rfl
/-- `JSR $2000` (R98, R185): `00100000 00000000 00100000`. -/
theorem test_decode_jsr :
    decode [0b00100000, 0b00000000, 0b00100000] = .ok (.jsr 0x2000, []) := rfl
/-- `STX $10,Y` (R98, R205): `10010110 00010000`. -/
theorem test_decode_stx : decode [0b10010110, 0b00010000] = .ok (.stxZpy 0x10, []) := rfl
/-- `EOR ($20),Y` (R98, R223): `01010001 00100000`. -/
theorem test_decode_eor : decode [0b01010001, 0b00100000] = .ok (.eorIndy 0x20, []) := rfl
/-- An opcode byte that asks for more bytes than there are (R92). -/
theorem test_decode_truncated : decode [0x8D, 0x00] = .error (.truncated 0x8D) := rfl
/-- `02` is not in the table (R99). -/
theorem test_decode_illegal : decode [0x02, 0x00] = .error (.illegalOpcode 0x02) := rfl

/-- A row of R98: opcode, mnemonic, mode, length, base cycles, "+1 on page cross", access. -/
abbrev Row := Byte × Mnemonic × Mode × Nat × Nat × Bool × AccessKind

/-- The instruction decoded from the row's opcode byte, operand bytes `FF 12`, has the row's columns, and
in a state where every indexed access crosses a page it costs one more exactly where the row says. -/
def rowOk (row : Row) : Bool :=
  let (op, mn, md, len, cyc, cross, kind) := row
  match decodeTableWord 24 (0x12FF00 + op.toNat) with
  | some i =>
    i.mnemonic == mn && i.mode == md && i.length == len && i.baseCycles == cyc &&
      i.accessKind == kind && encode i == [op, 0xFF, 0x12].take len &&
      (kind == .branch ||
        i.penalty { State.reset with x := 0xFF, y := 0xFF } == if cross then 1 else 0)
  | none => false

/-- Every row of a list. -/
def rowsOk (rows : List Row) : Bool := rows.all rowOk

theorem test_rows_0 : rowsOk
    [(0x00, .brk, .imp, 1, 7, false, .special),
     (0x01, .ora, .indx, 2, 6, false, .read),
     (0x05, .ora, .zp, 2, 3, false, .read),
     (0x06, .asl, .zp, 2, 5, false, .rmw),
     (0x08, .php, .imp, 1, 3, false, .special),
     (0x09, .ora, .im, 2, 2, false, .read),
     (0x0A, .asl, .acc, 1, 2, false, .acc),
     (0x0D, .ora, .abs, 3, 4, false, .read),
     (0x0E, .asl, .abs, 3, 6, false, .rmw)] = true := by decide

theorem test_rows_1 : rowsOk
    [(0x10, .bpl, .rel, 2, 2, false, .branch),
     (0x11, .ora, .indy, 2, 5, true, .read),
     (0x15, .ora, .zpx, 2, 4, false, .read),
     (0x16, .asl, .zpx, 2, 6, false, .rmw),
     (0x18, .clc, .imp, 1, 2, false, .implied),
     (0x19, .ora, .absy, 3, 4, true, .read),
     (0x1D, .ora, .absx, 3, 4, true, .read),
     (0x1E, .asl, .absx, 3, 7, false, .rmw)] = true := by decide

theorem test_rows_2 : rowsOk
    [(0x20, .jsr, .abs, 3, 6, false, .special),
     (0x21, .and, .indx, 2, 6, false, .read),
     (0x24, .bit, .zp, 2, 3, false, .read),
     (0x25, .and, .zp, 2, 3, false, .read),
     (0x26, .rol, .zp, 2, 5, false, .rmw),
     (0x28, .plp, .imp, 1, 4, false, .special),
     (0x29, .and, .im, 2, 2, false, .read),
     (0x2A, .rol, .acc, 1, 2, false, .acc),
     (0x2C, .bit, .abs, 3, 4, false, .read),
     (0x2D, .and, .abs, 3, 4, false, .read),
     (0x2E, .rol, .abs, 3, 6, false, .rmw)] = true := by decide

theorem test_rows_3 : rowsOk
    [(0x30, .bmi, .rel, 2, 2, false, .branch),
     (0x31, .and, .indy, 2, 5, true, .read),
     (0x35, .and, .zpx, 2, 4, false, .read),
     (0x36, .rol, .zpx, 2, 6, false, .rmw),
     (0x38, .sec, .imp, 1, 2, false, .implied),
     (0x39, .and, .absy, 3, 4, true, .read),
     (0x3D, .and, .absx, 3, 4, true, .read),
     (0x3E, .rol, .absx, 3, 7, false, .rmw)] = true := by decide

theorem test_rows_4 : rowsOk
    [(0x40, .rti, .imp, 1, 6, false, .special),
     (0x41, .eor, .indx, 2, 6, false, .read),
     (0x45, .eor, .zp, 2, 3, false, .read),
     (0x46, .lsr, .zp, 2, 5, false, .rmw),
     (0x48, .pha, .imp, 1, 3, false, .special),
     (0x49, .eor, .im, 2, 2, false, .read),
     (0x4A, .lsr, .acc, 1, 2, false, .acc),
     (0x4C, .jmp, .abs, 3, 3, false, .jump),
     (0x4D, .eor, .abs, 3, 4, false, .read),
     (0x4E, .lsr, .abs, 3, 6, false, .rmw)] = true := by decide

theorem test_rows_5 : rowsOk
    [(0x50, .bvc, .rel, 2, 2, false, .branch),
     (0x51, .eor, .indy, 2, 5, true, .read),
     (0x55, .eor, .zpx, 2, 4, false, .read),
     (0x56, .lsr, .zpx, 2, 6, false, .rmw),
     (0x58, .cli, .imp, 1, 2, false, .implied),
     (0x59, .eor, .absy, 3, 4, true, .read),
     (0x5D, .eor, .absx, 3, 4, true, .read),
     (0x5E, .lsr, .absx, 3, 7, false, .rmw)] = true := by decide

theorem test_rows_6 : rowsOk
    [(0x60, .rts, .imp, 1, 6, false, .special),
     (0x61, .adc, .indx, 2, 6, false, .read),
     (0x65, .adc, .zp, 2, 3, false, .read),
     (0x66, .ror, .zp, 2, 5, false, .rmw),
     (0x68, .pla, .imp, 1, 4, false, .special),
     (0x69, .adc, .im, 2, 2, false, .read),
     (0x6A, .ror, .acc, 1, 2, false, .acc),
     (0x6C, .jmp, .absInd, 3, 5, false, .jump),
     (0x6D, .adc, .abs, 3, 4, false, .read),
     (0x6E, .ror, .abs, 3, 6, false, .rmw)] = true := by decide

theorem test_rows_7 : rowsOk
    [(0x70, .bvs, .rel, 2, 2, false, .branch),
     (0x71, .adc, .indy, 2, 5, true, .read),
     (0x75, .adc, .zpx, 2, 4, false, .read),
     (0x76, .ror, .zpx, 2, 6, false, .rmw),
     (0x78, .sei, .imp, 1, 2, false, .implied),
     (0x79, .adc, .absy, 3, 4, true, .read),
     (0x7D, .adc, .absx, 3, 4, true, .read),
     (0x7E, .ror, .absx, 3, 7, false, .rmw)] = true := by decide

theorem test_rows_8 : rowsOk
    [(0x81, .sta, .indx, 2, 6, false, .write),
     (0x84, .sty, .zp, 2, 3, false, .write),
     (0x85, .sta, .zp, 2, 3, false, .write),
     (0x86, .stx, .zp, 2, 3, false, .write),
     (0x88, .dey, .imp, 1, 2, false, .implied),
     (0x8A, .txa, .imp, 1, 2, false, .implied),
     (0x8C, .sty, .abs, 3, 4, false, .write),
     (0x8D, .sta, .abs, 3, 4, false, .write),
     (0x8E, .stx, .abs, 3, 4, false, .write)] = true := by decide

theorem test_rows_9 : rowsOk
    [(0x90, .bcc, .rel, 2, 2, false, .branch),
     (0x91, .sta, .indy, 2, 6, false, .write),
     (0x94, .sty, .zpx, 2, 4, false, .write),
     (0x95, .sta, .zpx, 2, 4, false, .write),
     (0x96, .stx, .zpy, 2, 4, false, .write),
     (0x98, .tya, .imp, 1, 2, false, .implied),
     (0x99, .sta, .absy, 3, 5, false, .write),
     (0x9A, .txs, .imp, 1, 2, false, .implied),
     (0x9D, .sta, .absx, 3, 5, false, .write)] = true := by decide

theorem test_rows_A : rowsOk
    [(0xA0, .ldy, .im, 2, 2, false, .read),
     (0xA1, .lda, .indx, 2, 6, false, .read),
     (0xA2, .ldx, .im, 2, 2, false, .read),
     (0xA4, .ldy, .zp, 2, 3, false, .read),
     (0xA5, .lda, .zp, 2, 3, false, .read),
     (0xA6, .ldx, .zp, 2, 3, false, .read),
     (0xA8, .tay, .imp, 1, 2, false, .implied),
     (0xA9, .lda, .im, 2, 2, false, .read),
     (0xAA, .tax, .imp, 1, 2, false, .implied),
     (0xAC, .ldy, .abs, 3, 4, false, .read),
     (0xAD, .lda, .abs, 3, 4, false, .read),
     (0xAE, .ldx, .abs, 3, 4, false, .read)] = true := by decide

theorem test_rows_B : rowsOk
    [(0xB0, .bcs, .rel, 2, 2, false, .branch),
     (0xB1, .lda, .indy, 2, 5, true, .read),
     (0xB4, .ldy, .zpx, 2, 4, false, .read),
     (0xB5, .lda, .zpx, 2, 4, false, .read),
     (0xB6, .ldx, .zpy, 2, 4, false, .read),
     (0xB8, .clv, .imp, 1, 2, false, .implied),
     (0xB9, .lda, .absy, 3, 4, true, .read),
     (0xBA, .tsx, .imp, 1, 2, false, .implied),
     (0xBC, .ldy, .absx, 3, 4, true, .read),
     (0xBD, .lda, .absx, 3, 4, true, .read),
     (0xBE, .ldx, .absy, 3, 4, true, .read)] = true := by decide

theorem test_rows_C : rowsOk
    [(0xC0, .cpy, .im, 2, 2, false, .read),
     (0xC1, .cmp, .indx, 2, 6, false, .read),
     (0xC4, .cpy, .zp, 2, 3, false, .read),
     (0xC5, .cmp, .zp, 2, 3, false, .read),
     (0xC6, .dec, .zp, 2, 5, false, .rmw),
     (0xC8, .iny, .imp, 1, 2, false, .implied),
     (0xC9, .cmp, .im, 2, 2, false, .read),
     (0xCA, .dex, .imp, 1, 2, false, .implied),
     (0xCC, .cpy, .abs, 3, 4, false, .read),
     (0xCD, .cmp, .abs, 3, 4, false, .read),
     (0xCE, .dec, .abs, 3, 6, false, .rmw)] = true := by decide

theorem test_rows_D : rowsOk
    [(0xD0, .bne, .rel, 2, 2, false, .branch),
     (0xD1, .cmp, .indy, 2, 5, true, .read),
     (0xD5, .cmp, .zpx, 2, 4, false, .read),
     (0xD6, .dec, .zpx, 2, 6, false, .rmw),
     (0xD8, .cld, .imp, 1, 2, false, .implied),
     (0xD9, .cmp, .absy, 3, 4, true, .read),
     (0xDD, .cmp, .absx, 3, 4, true, .read),
     (0xDE, .dec, .absx, 3, 7, false, .rmw)] = true := by decide

theorem test_rows_E : rowsOk
    [(0xE0, .cpx, .im, 2, 2, false, .read),
     (0xE1, .sbc, .indx, 2, 6, false, .read),
     (0xE4, .cpx, .zp, 2, 3, false, .read),
     (0xE5, .sbc, .zp, 2, 3, false, .read),
     (0xE6, .inc, .zp, 2, 5, false, .rmw),
     (0xE8, .inx, .imp, 1, 2, false, .implied),
     (0xE9, .sbc, .im, 2, 2, false, .read),
     (0xEA, .nop, .imp, 1, 2, false, .implied),
     (0xEC, .cpx, .abs, 3, 4, false, .read),
     (0xED, .sbc, .abs, 3, 4, false, .read),
     (0xEE, .inc, .abs, 3, 6, false, .rmw)] = true := by decide

theorem test_rows_F : rowsOk
    [(0xF0, .beq, .rel, 2, 2, false, .branch),
     (0xF1, .sbc, .indy, 2, 5, true, .read),
     (0xF5, .sbc, .zpx, 2, 4, false, .read),
     (0xF6, .inc, .zpx, 2, 6, false, .rmw),
     (0xF8, .sed, .imp, 1, 2, false, .implied),
     (0xF9, .sbc, .absy, 3, 4, true, .read),
     (0xFD, .sbc, .absx, 3, 4, true, .read),
     (0xFE, .inc, .absx, 3, 7, false, .rmw)] = true := by decide

/-- The 105 bytes of R99 decode to nothing, and there are 105 of them. -/
theorem test_illegal_bytes :
    (illegalOpcodes.all fun b => decodeTableWord 24 b.toNat == none) = true ∧
      illegalOpcodes.length = 105 := by decide

/-! ### One step each: the vectors of `95_test_vectors.md` -/

/-- T4 of `95_test_vectors.md`, 41 R141: `V`, `C`, `Z` together. -/
theorem test_T4_adc :
    runs ({ start 0x0200 [0x69, 0x80] [] with a := 0x80 }) (fun t =>
      t.a == 0x00 && t.pc == 0x0202 && flags t == [false, true, false, false, true, true] &&
      t.bus == [r 0x0200 0x69, r 0x0201 0x80]) = true := by decide

/-- T7 of `95_test_vectors.md`, 41 R141, R142; 40 R123: `D = 1`: with `BCD_ENABLED = false` the end flags are `001000` instead. -/
theorem test_T7_adc :
    runs ({ start 0x0200 [0x65, 0x10] [(0x0010, 0x02)] with a := 0x01, d := true }) (fun t =>
      t.a == 0x03 && t.pc == 0x0202 && t.d == true && t.i == false && t.c == false &&
      t.bus == [r 0x0200 0x65, r 0x0201 0x10, r 0x0010 0x02]) = true := by decide

/-- T9 of `95_test_vectors.md`, 41 R144: signed overflow. -/
theorem test_T9_sbc :
    runs ({ start 0x0200 [0xE9, 0x01] [] with a := 0x80, c := true }) (fun t =>
      t.a == 0x7F && t.pc == 0x0202 && flags t == [false, true, false, false, false, true] &&
      t.bus == [r 0x0200 0xE9, r 0x0201 0x01]) = true := by decide

/-- T14 of `95_test_vectors.md`, 41 R142: 58 + 46 + 1 = 105. -/
theorem test_T14_adc :
    runs ({ start 0x0200 [0x69, 0x46] [] with a := 0x58, d := true, c := true }) (fun t =>
      t.a == 0x05 && t.pc == 0x0202 && t.d == true && t.i == false && t.c == true &&
      t.bus == [r 0x0200 0x69, r 0x0201 0x46]) = true := by decide

/-- T18 of `95_test_vectors.md`, 41 R145: 12 - 21 = 91 borrow. -/
theorem test_T18_sbc :
    runs ({ start 0x0200 [0xE9, 0x21] [] with a := 0x12, d := true, c := true }) (fun t =>
      t.a == 0x91 && t.pc == 0x0202 && t.d == true && t.i == false && t.c == false &&
      t.bus == [r 0x0200 0xE9, r 0x0201 0x21]) = true := by decide

/-- T21 of `95_test_vectors.md`, 41 R146: `N` is bit 7 of the difference 0x01. -/
theorem test_T21_cmp :
    runs ({ start 0x0200 [0xC9, 0xFF] [] with a := 0x00 }) (fun t =>
      t.pc == 0x0202 && flags t == [false, false, false, false, false, false] &&
      t.bus == [r 0x0200 0xC9, r 0x0201 0xFF]) = true := by decide

/-- T22 of `95_test_vectors.md`, 41 R146: `D` ignored, carry-in ignored. -/
theorem test_T22_cmp :
    runs ({ start 0x0200 [0xC9, 0x7F] [] with a := 0x80, d := true }) (fun t =>
      t.pc == 0x0202 && flags t == [false, false, true, false, false, true] &&
      t.bus == [r 0x0200 0xC9, r 0x0201 0x7F]) = true := by decide

/-- T23 of `95_test_vectors.md`, 41 R147. -/
theorem test_T23_cpx :
    runs ({ start 0x0200 [0xE0, 0x10] [] with x := 0x0F }) (fun t =>
      t.pc == 0x0202 && flags t == [true, false, false, false, false, false] &&
      t.bus == [r 0x0200 0xE0, r 0x0201 0x10]) = true := by decide

/-- T24 of `95_test_vectors.md`, 41 R148; 40 R123. -/
theorem test_T24_cpy :
    runs ({ start 0x0200 [0xC4, 0x10] [(0x0010, 0x55)] with y := 0x56 }) (fun t =>
      t.pc == 0x0202 && flags t == [false, false, false, false, false, true] &&
      t.bus == [r 0x0200 0xC4, r 0x0201 0x10, r 0x0010 0x55]) = true := by decide

/-- T30 of `95_test_vectors.md`, 42 R151; 40 R121. -/
theorem test_T30_asl :
    runs ({ start 0x0200 [0x0A] [] with a := 0x80 }) (fun t =>
      t.a == 0x00 && t.pc == 0x0201 && flags t == [false, false, false, false, true, true] &&
      t.bus == [r 0x0200 0x0A, r 0x0201 0x55]) = true := by decide

/-- T31 of `95_test_vectors.md`, 42 R151: old `C` is not shifted in. -/
theorem test_T31_asl :
    runs ({ start 0x0200 [0x0A] [] with a := 0x40, c := true }) (fun t =>
      t.a == 0x80 && t.pc == 0x0201 && flags t == [true, false, false, false, false, false] &&
      t.bus == [r 0x0200 0x0A, r 0x0201 0x55]) = true := by decide

/-- T32 of `95_test_vectors.md`, 42 R152. -/
theorem test_T32_lsr :
    runs ({ start 0x0200 [0x4A] [] with a := 0x01 }) (fun t =>
      t.a == 0x00 && t.pc == 0x0201 && flags t == [false, false, false, false, true, true] &&
      t.bus == [r 0x0200 0x4A, r 0x0201 0x55]) = true := by decide

/-- T33 of `95_test_vectors.md`, 42 R152: `N` always 0 after `LSR`. -/
theorem test_T33_lsr :
    runs ({ start 0x0200 [0x4A] [] with a := 0x80, n := true }) (fun t =>
      t.a == 0x40 && t.pc == 0x0201 && flags t == [false, false, false, false, false, false] &&
      t.bus == [r 0x0200 0x4A, r 0x0201 0x55]) = true := by decide

/-- T34 of `95_test_vectors.md`, 42 R153. -/
theorem test_T34_rol :
    runs ({ start 0x0200 [0x2A] [] with a := 0x80, c := true }) (fun t =>
      t.a == 0x01 && t.pc == 0x0201 && flags t == [false, false, false, false, false, true] &&
      t.bus == [r 0x0200 0x2A, r 0x0201 0x55]) = true := by decide

/-- T35 of `95_test_vectors.md`, 42 R154. -/
theorem test_T35_ror :
    runs ({ start 0x0200 [0x6A] [] with a := 0x01 }) (fun t =>
      t.a == 0x00 && t.pc == 0x0201 && flags t == [false, false, false, false, true, true] &&
      t.bus == [r 0x0200 0x6A, r 0x0201 0x55]) = true := by decide

/-- T36 of `95_test_vectors.md`, 42 R154. -/
theorem test_T36_ror :
    runs ({ start 0x0200 [0x6A] [] with a := 0x00, c := true }) (fun t =>
      t.a == 0x80 && t.pc == 0x0201 && flags t == [true, false, false, false, false, false] &&
      t.bus == [r 0x0200 0x6A, r 0x0201 0x55]) = true := by decide

/-- T37 of `95_test_vectors.md`, 42 R151; 20 R68: dummy write of the old value. -/
theorem test_T37_asl :
    runs (start 0x0200 [0x06, 0x10] [(0x0010, 0xC1)]) (fun t =>
      t.pc == 0x0202 && flags t == [true, false, false, false, false, true] &&
      t.load 0x0010 == 0x82 &&
      t.bus == [r 0x0200 0x06, r 0x0201 0x10, r 0x0010 0xC1, w 0x0010 0xC1, w 0x0010 0x82]) = true := by decide

/-- T38 of `95_test_vectors.md`, 42 R154; 40 R127; 20 R68: dummy read at the uncorrected address 1000. -/
theorem test_T38_ror :
    runs ({ start 0x0200 [0x7E, 0xFF, 0x10] [(0x1100, 0x02)] with x := 0x01, c := true }) (fun t =>
      t.pc == 0x0203 && flags t == [true, false, false, false, false, false] &&
      t.load 0x1100 == 0x81 &&
      t.bus == [r 0x0200 0x7E, r 0x0201 0xFF, r 0x0202 0x10, r 0x1000 0x55, r 0x1100 0x02,
        w 0x1100 0x02, w 0x1100 0x81]) = true := by decide

/-- T39 of `95_test_vectors.md`, 42 R152; 40 R124: zero-page wrap F0 + 20 = 10. -/
theorem test_T39_lsr :
    runs ({ start 0x0200 [0x56, 0xF0] [(0x0010, 0x03)] with x := 0x20 }) (fun t =>
      t.pc == 0x0202 && flags t == [false, false, false, false, false, true] &&
      t.load 0x0010 == 0x01 &&
      t.bus == [r 0x0200 0x56, r 0x0201 0xF0, r 0x00F0 0x55, r 0x0010 0x03, w 0x0010 0x03,
        w 0x0010 0x01]) = true := by decide

/-- T40 of `95_test_vectors.md`, 42 R153; 40 R126. -/
theorem test_T40_rol :
    runs (start 0x0200 [0x2E, 0x00, 0x30] [(0x3000, 0x55)]) (fun t =>
      t.pc == 0x0203 && flags t == [true, false, false, false, false, false] &&
      t.load 0x3000 == 0xAA &&
      t.bus == [r 0x0200 0x2E, r 0x0201 0x00, r 0x0202 0x30, r 0x3000 0x55, w 0x3000 0x55,
        w 0x3000 0xAA]) = true := by decide

/-- T51 of `95_test_vectors.md`, 43 R167: taken, same page. -/
theorem test_T51_bne :
    runs (start 0x0200 [0xD0, 0x10] []) (fun t =>
      t.pc == 0x0212 && flags t == [false, false, false, false, false, false] &&
      t.bus == [r 0x0200 0xD0, r 0x0201 0x10, r 0x0202 0x55]) = true := by decide

/-- T52 of `95_test_vectors.md`, 43 R168: back across a page; second dummy read at the uncorrected 03FE. -/
theorem test_T52_beq :
    runs ({ start 0x0300 [0xF0, 0xFC] [] with z := true }) (fun t =>
      t.pc == 0x02FE && flags t == [false, false, false, false, true, false] &&
      t.bus == [r 0x0300 0xF0, r 0x0301 0xFC, r 0x0302 0x55, r 0x03FE 0x55]) = true := by decide

/-- T53 of `95_test_vectors.md`, 43 R167: forward across a page: next instruction 02FF, target 0300. -/
theorem test_T53_bne :
    runs (start 0x02FD [0xD0, 0x01] []) (fun t =>
      t.pc == 0x0300 && flags t == [false, false, false, false, false, false] &&
      t.bus == [r 0x02FD 0xD0, r 0x02FE 0x01, r 0x02FF 0x55, r 0x0200 0x55]) = true := by decide

/-- T54 of `95_test_vectors.md`, 43 R161: +127. -/
theorem test_T54_bpl :
    runs (start 0x0200 [0x10, 0x7F] []) (fun t =>
      t.pc == 0x0281 && flags t == [false, false, false, false, false, false] &&
      t.bus == [r 0x0200 0x10, r 0x0201 0x7F, r 0x0202 0x55]) = true := by decide

/-- T55 of `95_test_vectors.md`, 43 R162: -128. -/
theorem test_T55_bmi :
    runs ({ start 0x0200 [0x30, 0x80] [] with n := true }) (fun t =>
      t.pc == 0x0182 && flags t == [true, false, false, false, false, false] &&
      t.bus == [r 0x0200 0x30, r 0x0201 0x80, r 0x0202 0x55, r 0x0282 0x55]) = true := by decide

/-- T56 of `95_test_vectors.md`, 43 R165: branch to itself. -/
theorem test_T56_bcc :
    runs (start 0x0200 [0x90, 0xFE] []) (fun t =>
      t.pc == 0x0200 && flags t == [false, false, false, false, false, false] &&
      t.bus == [r 0x0200 0x90, r 0x0201 0xFE, r 0x0202 0x55]) = true := by decide

/-- T57 of `95_test_vectors.md`, 43 R166: not taken. -/
theorem test_T57_bcs :
    runs (start 0x0200 [0xB0, 0x02] []) (fun t =>
      t.pc == 0x0202 && flags t == [false, false, false, false, false, false] &&
      t.bus == [r 0x0200 0xB0, r 0x0201 0x02]) = true := by decide

/-- T58 of `95_test_vectors.md`, 43 R163. -/
theorem test_T58_bvc :
    runs (start 0x0200 [0x50, 0x05] []) (fun t =>
      t.pc == 0x0207 && flags t == [false, false, false, false, false, false] &&
      t.bus == [r 0x0200 0x50, r 0x0201 0x05, r 0x0202 0x55]) = true := by decide

/-- T59 of `95_test_vectors.md`, 43 R164. -/
theorem test_T59_bvs :
    runs ({ start 0x0200 [0x70, 0x05] [] with v := true }) (fun t =>
      t.pc == 0x0207 && flags t == [false, true, false, false, false, false] &&
      t.bus == [r 0x0200 0x70, r 0x0201 0x05, r 0x0202 0x55]) = true := by decide

/-- T60 of `95_test_vectors.md`, 43 R168; 40 R135: target wraps past FFFF; counts as a page crossing. -/
theorem test_T60_beq :
    runs ({ start 0xFFF0 [0xF0, 0x10] [] with z := true }) (fun t =>
      t.pc == 0x0002 && flags t == [false, false, false, false, true, false] &&
      t.bus == [r 0xFFF0 0xF0, r 0xFFF1 0x10, r 0xFFF2 0x55, r 0xFF02 0x55]) = true := by decide

/-- T61 of `95_test_vectors.md`, 43 R169. -/
theorem test_T61_jmp :
    runs (start 0x0200 [0x4C, 0x34, 0x12] []) (fun t =>
      t.pc == 0x1234 && flags t == [false, false, false, false, false, false] &&
      t.bus == [r 0x0200 0x4C, r 0x0201 0x34, r 0x0202 0x12]) = true := by decide

/-- T62 of `95_test_vectors.md`, 43 R170: high byte from 0200 (fill 55), not from 0300. -/
theorem test_T62_jmp :
    runs (start 0x0400 [0x6C, 0xFF, 0x02] [(0x02FF, 0x34), (0x0300, 0x99)]) (fun t =>
      t.pc == 0x5534 && flags t == [false, false, false, false, false, false] &&
      t.bus == [r 0x0400 0x6C, r 0x0401 0xFF, r 0x0402 0x02, r 0x02FF 0x34, r 0x0200 0x55]) = true := by decide

/-- T63 of `95_test_vectors.md`, 43 R170. -/
theorem test_T63_jmp :
    runs (start 0x0200 [0x6C, 0x10, 0x03] [(0x0310, 0x78), (0x0311, 0x56)]) (fun t =>
      t.pc == 0x5678 && flags t == [false, false, false, false, false, false] &&
      t.bus == [r 0x0200 0x6C, r 0x0201 0x10, r 0x0202 0x03, r 0x0310 0x78, r 0x0311 0x56]) = true := by decide

/-- T70 of `95_test_vectors.md`, 44 R181; 10 R26: `SP` wraps 00 to FF. -/
theorem test_T70_pha :
    runs ({ start 0x0200 [0x48] [] with a := 0x7E, sp := 0x00 }) (fun t =>
      t.sp == 0xFF && t.pc == 0x0201 && flags t == [false, false, false, false, false, false] &&
      t.load 0x0100 == 0x7E && t.bus == [r 0x0200 0x48, r 0x0201 0x55, w 0x0100 0x7E]) = true := by decide

/-- T71 of `95_test_vectors.md`, 44 R183: `SP` wraps FF to 00; `N Z` from the byte. -/
theorem test_T71_pla :
    runs ({ start 0x0200 [0x68] [(0x0100, 0x80)] with sp := 0xFF }) (fun t =>
      t.a == 0x80 && t.sp == 0x00 && t.pc == 0x0201 &&
      flags t == [true, false, false, false, false, false] &&
      t.bus == [r 0x0200 0x68, r 0x0201 0x55, r 0x01FF 0x55, r 0x0100 0x80]) = true := by decide

/-- T72 of `95_test_vectors.md`, 44 R182; 10 R33: pushed byte has bit 5 and `B` set. -/
theorem test_T72_php :
    runs ({ start 0x0200 [0x08] [] with n := true, d := true, c := true }) (fun t =>
      t.sp == 0xFC && t.pc == 0x0201 && flags t == [true, false, true, false, false, true] &&
      t.load 0x01FD == 0xB9 && t.bus == [r 0x0200 0x08, r 0x0201 0x55, w 0x01FD 0xB9]) = true := by decide

/-- T73 of `95_test_vectors.md`, 44 R182: all flags 0 pushes 30. -/
theorem test_T73_php :
    runs (start 0x0200 [0x08] []) (fun t =>
      t.sp == 0xFC && t.pc == 0x0201 && flags t == [false, false, false, false, false, false] &&
      t.load 0x01FD == 0x30 && t.bus == [r 0x0200 0x08, r 0x0201 0x55, w 0x01FD 0x30]) = true := by decide

/-- T74 of `95_test_vectors.md`, 44 R184; 10 R34. -/
theorem test_T74_plp :
    runs ({ start 0x0200 [0x28] [(0x01FD, 0xFF)] with sp := 0xFC }) (fun t =>
      t.sp == 0xFD && t.pc == 0x0201 && flags t == [true, true, true, true, true, true] &&
      t.bus == [r 0x0200 0x28, r 0x0201 0x55, r 0x01FC 0x55, r 0x01FD 0xFF]) = true := by decide

/-- T75 of `95_test_vectors.md`, 44 R184: bits 4 and 5 of the pulled byte are discarded. -/
theorem test_T75_plp :
    runs ({ start 0x0200 [0x28] [(0x01FD, 0x30)] with sp := 0xFC, n := true, v := true, d := true, i := true, z := true, c := true }) (fun t =>
      t.sp == 0xFD && t.pc == 0x0201 && flags t == [false, false, false, false, false, false] &&
      t.bus == [r 0x0200 0x28, r 0x0201 0x55, r 0x01FC 0x55, r 0x01FD 0x30]) = true := by decide

/-- T76 of `95_test_vectors.md`, 44 R185: pushes 1002, high first. -/
theorem test_T76_jsr :
    runs (start 0x1000 [0x20, 0x00, 0x20] []) (fun t =>
      t.sp == 0xFB && t.pc == 0x2000 && flags t == [false, false, false, false, false, false] &&
      t.load 0x01FC == 0x02 && t.load 0x01FD == 0x10 &&
      t.bus == [r 0x1000 0x20, r 0x1001 0x00, r 0x1002 0x20, r 0x01FD 0x55, w 0x01FD 0x10,
        w 0x01FC 0x02]) = true := by decide

/-- T77 of `95_test_vectors.md`, 44 R186. -/
theorem test_T77_rts :
    runs ({ start 0x2005 [0x60] [(0x01FC, 0x02), (0x01FD, 0x10)] with sp := 0xFB }) (fun t =>
      t.sp == 0xFD && t.pc == 0x1003 && flags t == [false, false, false, false, false, false] &&
      t.bus == [r 0x2005 0x60, r 0x2006 0x55, r 0x01FB 0x55, r 0x01FC 0x02, r 0x01FD 0x10,
        r 0x1002 0x55]) = true := by decide

/-- T78 of `95_test_vectors.md`, 44 R186; 10 R29: FFFF + 1 wraps to 0000. -/
theorem test_T78_rts :
    runs ({ start 0x2005 [0x60] [(0x01FC, 0xFF), (0x01FD, 0xFF)] with sp := 0xFB }) (fun t =>
      t.sp == 0xFD && t.pc == 0x0000 && flags t == [false, false, false, false, false, false] &&
      t.bus == [r 0x2005 0x60, r 0x2006 0x55, r 0x01FB 0x55, r 0x01FC 0xFF, r 0x01FD 0xFF,
        r 0xFFFF 0x55]) = true := by decide

/-- T79 of `95_test_vectors.md`, 44 R187; 60 R254: pushes 0202 and 71; `I` set after the push. -/
theorem test_T79_brk :
    runs ({ start 0x0200 [0x00, 0xEA] [(0xFFFE, 0x00), (0xFFFF, 0x30)] with v := true, c := true }) (fun t =>
      t.sp == 0xFA && t.pc == 0x3000 && flags t == [false, true, false, true, false, true] &&
      t.load 0x01FB == 0x71 && t.load 0x01FC == 0x02 && t.load 0x01FD == 0x02 &&
      t.halt == some (.brk 0x0200) &&
      t.bus == [r 0x0200 0x00, r 0x0201 0xEA, w 0x01FD 0x02, w 0x01FC 0x02, w 0x01FB 0x71,
        r 0xFFFE 0x00, r 0xFFFF 0x30]) = true := by decide

/-- T80 of `95_test_vectors.md`, 44 R188: returns from T79. -/
theorem test_T80_rti :
    runs ({ start 0x3000 [0x40] [(0x01FB, 0x71), (0x01FC, 0x02), (0x01FD, 0x02)] with sp := 0xFA, i := true }) (fun t =>
      t.sp == 0xFD && t.pc == 0x0202 && flags t == [false, true, false, false, false, true] &&
      t.bus == [r 0x3000 0x40, r 0x3001 0x55, r 0x01FA 0x55, r 0x01FB 0x71, r 0x01FC 0x02,
        r 0x01FD 0x02]) = true := by decide

/-- T81 of `95_test_vectors.md`, 44 R185: `SP` wraps between the two pushes. -/
theorem test_T81_jsr :
    runs ({ start 0x1000 [0x20, 0x34, 0x12] [] with sp := 0x00 }) (fun t =>
      t.sp == 0xFE && t.pc == 0x1234 && flags t == [false, false, false, false, false, false] &&
      t.load 0x0100 == 0x10 && t.load 0x01FF == 0x02 &&
      t.bus == [r 0x1000 0x20, r 0x1001 0x34, r 0x1002 0x12, r 0x0100 0x55, w 0x0100 0x10,
        w 0x01FF 0x02]) = true := by decide

/-- T82 of `95_test_vectors.md`, 44 R187: `SP` wraps inside the frame. -/
theorem test_T82_brk :
    runs ({ start 0x0200 [0x00] [(0xFFFE, 0x00), (0xFFFF, 0x30)] with sp := 0x01 }) (fun t =>
      t.sp == 0xFE && t.pc == 0x3000 && flags t == [false, false, false, true, false, false] &&
      t.load 0x0100 == 0x02 && t.load 0x0101 == 0x02 && t.load 0x01FF == 0x30 &&
      t.halt == some (.brk 0x0200) &&
      t.bus == [r 0x0200 0x00, r 0x0201 0x55, w 0x0101 0x02, w 0x0100 0x02, w 0x01FF 0x30,
        r 0xFFFE 0x00, r 0xFFFF 0x30]) = true := by decide

/-- T90 of `95_test_vectors.md`, 45 R201; 40 R122. -/
theorem test_T90_lda :
    runs ({ start 0x0200 [0xA9, 0x00] [] with a := 0x11, n := true }) (fun t =>
      t.a == 0x00 && t.pc == 0x0202 && flags t == [false, false, false, false, true, false] &&
      t.bus == [r 0x0200 0xA9, r 0x0201 0x00]) = true := by decide

/-- T91 of `95_test_vectors.md`, 45 R201; 40 R123. -/
theorem test_T91_lda :
    runs (start 0x0200 [0xA5, 0x10] [(0x0010, 0x80)]) (fun t =>
      t.a == 0x80 && t.pc == 0x0202 && flags t == [true, false, false, false, false, false] &&
      t.bus == [r 0x0200 0xA5, r 0x0201 0x10, r 0x0010 0x80]) = true := by decide

/-- T92 of `95_test_vectors.md`, 45 R201; 40 R124: the source's boundary case. -/
theorem test_T92_lda :
    runs ({ start 0x0200 [0xB5, 0x80] [(0x007F, 0x42), (0x017F, 0x99)] with x := 0xFF }) (fun t =>
      t.a == 0x42 && t.pc == 0x0202 && flags t == [false, false, false, false, false, false] &&
      t.bus == [r 0x0200 0xB5, r 0x0201 0x80, r 0x0080 0x55, r 0x007F 0x42]) = true := by decide

/-- T93 of `95_test_vectors.md`, 45 R201; 40 R126. -/
theorem test_T93_lda :
    runs (start 0x0200 [0xAD, 0x00, 0x30] [(0x3000, 0x01)]) (fun t =>
      t.a == 0x01 && t.pc == 0x0203 && flags t == [false, false, false, false, false, false] &&
      t.bus == [r 0x0200 0xAD, r 0x0201 0x00, r 0x0202 0x30, r 0x3000 0x01]) = true := by decide

/-- T94 of `95_test_vectors.md`, 45 R201; 40 R127: no crossing: no dummy read. -/
theorem test_T94_lda :
    runs ({ start 0x0200 [0xBD, 0x00, 0x10] [(0x1005, 0x22)] with x := 0x05 }) (fun t =>
      t.a == 0x22 && t.pc == 0x0203 && flags t == [false, false, false, false, false, false] &&
      t.bus == [r 0x0200 0xBD, r 0x0201 0x00, r 0x0202 0x10, r 0x1005 0x22]) = true := by decide

/-- T95 of `95_test_vectors.md`, 45 R201; 40 R127: crossing: dummy read at 1000, +1 cycle. -/
theorem test_T95_lda :
    runs ({ start 0x0200 [0xBD, 0xFF, 0x10] [(0x1100, 0x33)] with x := 0x01 }) (fun t =>
      t.a == 0x33 && t.pc == 0x0203 && flags t == [false, false, false, false, false, false] &&
      t.bus == [r 0x0200 0xBD, r 0x0201 0xFF, r 0x0202 0x10, r 0x1000 0x55, r 0x1100 0x33]) = true := by decide

/-- T96 of `95_test_vectors.md`, 45 R201; 40 R128, R135: FFFF + 2 wraps to 0001. -/
theorem test_T96_lda :
    runs ({ start 0x0200 [0xB9, 0xFF, 0xFF] [(0x0001, 0x44)] with y := 0x02 }) (fun t =>
      t.a == 0x44 && t.pc == 0x0203 && flags t == [false, false, false, false, false, false] &&
      t.bus == [r 0x0200 0xB9, r 0x0201 0xFF, r 0x0202 0xFF, r 0xFF01 0x55, r 0x0001 0x44]) = true := by decide

/-- T97 of `95_test_vectors.md`, 45 R201; 40 R130: pointer at FF and 00. -/
theorem test_T97_lda :
    runs ({ start 0x0200 [0xA1, 0xFE] [(0x00FF, 0x00), (0x0000, 0x40), (0x4000, 0x5A)] with x := 0x01 }) (fun t =>
      t.a == 0x5A && t.pc == 0x0202 && flags t == [false, false, false, false, false, false] &&
      t.bus == [r 0x0200 0xA1, r 0x0201 0xFE, r 0x00FE 0x55, r 0x00FF 0x00, r 0x0000 0x40,
        r 0x4000 0x5A]) = true := by decide

/-- T99 of `95_test_vectors.md`, 45 R201; 40 R131: crossing: dummy read at 4008. -/
theorem test_T99_lda :
    runs ({ start 0x0200 [0xB1, 0x20] [(0x0020, 0xF8), (0x0021, 0x40), (0x4108, 0x77)] with y := 0x10 }) (fun t =>
      t.a == 0x77 && t.pc == 0x0202 && flags t == [false, false, false, false, false, false] &&
      t.bus == [r 0x0200 0xB1, r 0x0201 0x20, r 0x0020 0xF8, r 0x0021 0x40, r 0x4008 0x55,
        r 0x4108 0x77]) = true := by decide

/-- T100 of `95_test_vectors.md`, 45 R201; 40 R131: pointer high byte from 0000. -/
theorem test_T100_lda :
    runs ({ start 0x0200 [0xB1, 0xFF] [(0x00FF, 0x00), (0x0000, 0x40), (0x4000, 0x88)] with y := 0x00 }) (fun t =>
      t.a == 0x88 && t.pc == 0x0202 && flags t == [true, false, false, false, false, false] &&
      t.bus == [r 0x0200 0xB1, r 0x0201 0xFF, r 0x00FF 0x00, r 0x0000 0x40, r 0x4000 0x88]) = true := by decide

/-- T101 of `95_test_vectors.md`, 45 R204; 40 R127: write: dummy read always. -/
theorem test_T101_sta :
    runs ({ start 0x0200 [0x9D, 0x00, 0x10] [] with a := 0xAB, x := 0x05 }) (fun t =>
      t.pc == 0x0203 && flags t == [false, false, false, false, false, false] &&
      t.load 0x1005 == 0xAB &&
      t.bus == [r 0x0200 0x9D, r 0x0201 0x00, r 0x0202 0x10, r 0x1005 0x55, w 0x1005 0xAB]) = true := by decide

/-- T102 of `95_test_vectors.md`, 45 R204; 40 R127: write across a page: still 5. -/
theorem test_T102_sta :
    runs ({ start 0x0200 [0x9D, 0xFF, 0x10] [] with a := 0xAB, x := 0x01 }) (fun t =>
      t.pc == 0x0203 && flags t == [false, false, false, false, false, false] &&
      t.load 0x1100 == 0xAB &&
      t.bus == [r 0x0200 0x9D, r 0x0201 0xFF, r 0x0202 0x10, r 0x1000 0x55, w 0x1100 0xAB]) = true := by decide

/-- T103 of `95_test_vectors.md`, 45 R204; 40 R131. -/
theorem test_T103_sta :
    runs ({ start 0x0200 [0x91, 0x20] [(0x0020, 0x00), (0x0021, 0x40)] with a := 0xCD, y := 0x10 }) (fun t =>
      t.pc == 0x0202 && flags t == [false, false, false, false, false, false] &&
      t.load 0x4010 == 0xCD &&
      t.bus == [r 0x0200 0x91, r 0x0201 0x20, r 0x0020 0x00, r 0x0021 0x40, r 0x4010 0x55,
        w 0x4010 0xCD]) = true := by decide

/-- T104 of `95_test_vectors.md`, 45 R204; 40 R130. -/
theorem test_T104_sta :
    runs ({ start 0x0200 [0x81, 0x20] [(0x0024, 0x00), (0x0025, 0x50)] with a := 0xEF, x := 0x04 }) (fun t =>
      t.pc == 0x0202 && flags t == [false, false, false, false, false, false] &&
      t.load 0x5000 == 0xEF &&
      t.bus == [r 0x0200 0x81, r 0x0201 0x20, r 0x0020 0x55, r 0x0024 0x00, r 0x0025 0x50,
        w 0x5000 0xEF]) = true := by decide

/-- T105 of `95_test_vectors.md`, 45 R202; 40 R125. -/
theorem test_T105_ldx :
    runs ({ start 0x0200 [0xB6, 0xF0] [(0x0010, 0x00)] with y := 0x20 }) (fun t =>
      t.pc == 0x0202 && flags t == [false, false, false, false, true, false] &&
      t.bus == [r 0x0200 0xB6, r 0x0201 0xF0, r 0x00F0 0x55, r 0x0010 0x00]) = true := by decide

/-- T106 of `95_test_vectors.md`, 45 R203; 40 R127. -/
theorem test_T106_ldy :
    runs ({ start 0x0200 [0xBC, 0x80, 0x20] [(0x2100, 0xFF)] with x := 0x80 }) (fun t =>
      t.y == 0xFF && t.pc == 0x0203 && flags t == [true, false, false, false, false, false] &&
      t.bus == [r 0x0200 0xBC, r 0x0201 0x80, r 0x0202 0x20, r 0x2000 0x55, r 0x2100 0xFF]) = true := by decide

/-- T107 of `95_test_vectors.md`, 45 R205: a store sets no flag. -/
theorem test_T107_stx :
    runs ({ start 0x0200 [0x86, 0x10] [] with x := 0x00 }) (fun t =>
      t.pc == 0x0202 && flags t == [false, false, false, false, false, false] &&
      t.load 0x0010 == 0x00 && t.bus == [r 0x0200 0x86, r 0x0201 0x10, w 0x0010 0x00]) = true := by decide

/-- T108 of `95_test_vectors.md`, 45 R206; 40 R124. -/
theorem test_T108_sty :
    runs ({ start 0x0200 [0x94, 0xFF] [] with x := 0x02, y := 0x99 }) (fun t =>
      t.pc == 0x0202 && flags t == [false, false, false, false, false, false] &&
      t.load 0x0001 == 0x99 &&
      t.bus == [r 0x0200 0x94, r 0x0201 0xFF, r 0x00FF 0x55, w 0x0001 0x99]) = true := by decide

/-- T109 of `95_test_vectors.md`, 45 R207. -/
theorem test_T109_tax :
    runs ({ start 0x0200 [0xAA] [] with a := 0x80 }) (fun t =>
      t.x == 0x80 && t.pc == 0x0201 && flags t == [true, false, false, false, false, false] &&
      t.bus == [r 0x0200 0xAA, r 0x0201 0x55]) = true := by decide

/-- T110 of `95_test_vectors.md`, 45 R208. -/
theorem test_T110_tay :
    runs ({ start 0x0200 [0xA8] [] with a := 0x00, n := true }) (fun t =>
      t.pc == 0x0201 && flags t == [false, false, false, false, true, false] &&
      t.bus == [r 0x0200 0xA8, r 0x0201 0x55]) = true := by decide

/-- T111 of `95_test_vectors.md`, 45 R209. -/
theorem test_T111_txa :
    runs ({ start 0x0200 [0x8A] [] with a := 0x00, x := 0x7F, z := true }) (fun t =>
      t.a == 0x7F && t.pc == 0x0201 && flags t == [false, false, false, false, false, false] &&
      t.bus == [r 0x0200 0x8A, r 0x0201 0x55]) = true := by decide

/-- T112 of `95_test_vectors.md`, 45 R210. -/
theorem test_T112_tya :
    runs ({ start 0x0200 [0x98] [] with y := 0xFF }) (fun t =>
      t.a == 0xFF && t.pc == 0x0201 && flags t == [true, false, false, false, false, false] &&
      t.bus == [r 0x0200 0x98, r 0x0201 0x55]) = true := by decide

/-- T113 of `95_test_vectors.md`, 45 R211. -/
theorem test_T113_tsx :
    runs ({ start 0x0200 [0xBA] [] with sp := 0x00 }) (fun t =>
      t.pc == 0x0201 && flags t == [false, false, false, false, true, false] &&
      t.bus == [r 0x0200 0xBA, r 0x0201 0x55]) = true := by decide

/-- T114 of `95_test_vectors.md`, 45 R212: `TXS` sets no flag. -/
theorem test_T114_txs :
    runs ({ start 0x0200 [0x9A] [] with x := 0x00, n := true }) (fun t =>
      t.sp == 0x00 && t.pc == 0x0201 && flags t == [true, false, false, false, false, false] &&
      t.bus == [r 0x0200 0x9A, r 0x0201 0x55]) = true := by decide

/-- T120 of `95_test_vectors.md`, 46 R221. -/
theorem test_T120_and :
    runs ({ start 0x0200 [0x29, 0x0F] [] with a := 0xF0 }) (fun t =>
      t.a == 0x00 && t.pc == 0x0202 && flags t == [false, false, false, false, true, false] &&
      t.bus == [r 0x0200 0x29, r 0x0201 0x0F]) = true := by decide

/-- T121 of `95_test_vectors.md`, 46 R222. -/
theorem test_T121_ora :
    runs ({ start 0x0200 [0x09, 0x80] [] with a := 0x01 }) (fun t =>
      t.a == 0x81 && t.pc == 0x0202 && flags t == [true, false, false, false, false, false] &&
      t.bus == [r 0x0200 0x09, r 0x0201 0x80]) = true := by decide

/-- T122 of `95_test_vectors.md`, 46 R223. -/
theorem test_T122_eor :
    runs ({ start 0x0200 [0x49, 0xFF] [] with a := 0xFF }) (fun t =>
      t.a == 0x00 && t.pc == 0x0202 && flags t == [false, false, false, false, true, false] &&
      t.bus == [r 0x0200 0x49, r 0x0201 0xFF]) = true := by decide

/-- T123 of `95_test_vectors.md`, 46 R224: `N V` from the memory byte, `Z` from the AND. -/
theorem test_T123_bit :
    runs ({ start 0x0200 [0x24, 0x10] [(0x0010, 0xC0)] with a := 0x01 }) (fun t =>
      t.pc == 0x0202 && flags t == [true, true, false, false, true, false] &&
      t.bus == [r 0x0200 0x24, r 0x0201 0x10, r 0x0010 0xC0]) = true := by decide

/-- T124 of `95_test_vectors.md`, 46 R224. -/
theorem test_T124_bit :
    runs ({ start 0x0200 [0x2C, 0x00, 0x30] [(0x3000, 0x3F)] with a := 0xFF, n := true, v := true }) (fun t =>
      t.pc == 0x0203 && flags t == [false, false, false, false, false, false] &&
      t.bus == [r 0x0200 0x2C, r 0x0201 0x00, r 0x0202 0x30, r 0x3000 0x3F]) = true := by decide

/-- T125 of `95_test_vectors.md`, 46 R225; 20 R68. -/
theorem test_T125_inc :
    runs (start 0x0200 [0xE6, 0x10] [(0x0010, 0xFF)]) (fun t =>
      t.pc == 0x0202 && flags t == [false, false, false, false, true, false] &&
      t.load 0x0010 == 0x00 &&
      t.bus == [r 0x0200 0xE6, r 0x0201 0x10, r 0x0010 0xFF, w 0x0010 0xFF, w 0x0010 0x00]) = true := by decide

/-- T126 of `95_test_vectors.md`, 46 R226; 40 R127: dummy read at the (here equal) uncorrected address. -/
theorem test_T126_dec :
    runs ({ start 0x0200 [0xDE, 0x00, 0x30] [(0x3001, 0x00)] with x := 0x01 }) (fun t =>
      t.pc == 0x0203 && flags t == [true, false, false, false, false, false] &&
      t.load 0x3001 == 0xFF &&
      t.bus == [r 0x0200 0xDE, r 0x0201 0x00, r 0x0202 0x30, r 0x3001 0x00, r 0x3001 0x00,
        w 0x3001 0x00, w 0x3001 0xFF]) = true := by decide

/-- T127 of `95_test_vectors.md`, 46 R227. -/
theorem test_T127_inx :
    runs ({ start 0x0200 [0xE8] [] with x := 0xFF }) (fun t =>
      t.x == 0x00 && t.pc == 0x0201 && flags t == [false, false, false, false, true, false] &&
      t.bus == [r 0x0200 0xE8, r 0x0201 0x55]) = true := by decide

/-- T128 of `95_test_vectors.md`, 46 R228: no `V`. -/
theorem test_T128_iny :
    runs ({ start 0x0200 [0xC8] [] with y := 0x7F }) (fun t =>
      t.y == 0x80 && t.pc == 0x0201 && flags t == [true, false, false, false, false, false] &&
      t.bus == [r 0x0200 0xC8, r 0x0201 0x55]) = true := by decide

/-- T129 of `95_test_vectors.md`, 46 R229. -/
theorem test_T129_dex :
    runs ({ start 0x0200 [0xCA] [] with x := 0x01 }) (fun t =>
      t.x == 0x00 && t.pc == 0x0201 && flags t == [false, false, false, false, true, false] &&
      t.bus == [r 0x0200 0xCA, r 0x0201 0x55]) = true := by decide

/-- T130 of `95_test_vectors.md`, 46 R230. -/
theorem test_T130_dey :
    runs ({ start 0x0200 [0x88] [] with y := 0x00 }) (fun t =>
      t.y == 0xFF && t.pc == 0x0201 && flags t == [true, false, false, false, false, false] &&
      t.bus == [r 0x0200 0x88, r 0x0201 0x55]) = true := by decide

/-- T131 of `95_test_vectors.md`, 46 R231. -/
theorem test_T131_clc :
    runs ({ start 0x0200 [0x18] [] with c := true }) (fun t =>
      t.pc == 0x0201 && flags t == [false, false, false, false, false, false] &&
      t.bus == [r 0x0200 0x18, r 0x0201 0x55]) = true := by decide

/-- T132 of `95_test_vectors.md`, 46 R232. -/
theorem test_T132_sec :
    runs (start 0x0200 [0x38] []) (fun t =>
      t.pc == 0x0201 && flags t == [false, false, false, false, false, true] &&
      t.bus == [r 0x0200 0x38, r 0x0201 0x55]) = true := by decide

/-- T133 of `95_test_vectors.md`, 46 R233. -/
theorem test_T133_cli :
    runs ({ start 0x0200 [0x58] [] with i := true }) (fun t =>
      t.pc == 0x0201 && flags t == [false, false, false, false, false, false] &&
      t.bus == [r 0x0200 0x58, r 0x0201 0x55]) = true := by decide

/-- T134 of `95_test_vectors.md`, 46 R234. -/
theorem test_T134_sei :
    runs (start 0x0200 [0x78] []) (fun t =>
      t.pc == 0x0201 && flags t == [false, false, false, true, false, false] &&
      t.bus == [r 0x0200 0x78, r 0x0201 0x55]) = true := by decide

/-- T135 of `95_test_vectors.md`, 46 R235. -/
theorem test_T135_cld :
    runs ({ start 0x0200 [0xD8] [] with d := true }) (fun t =>
      t.pc == 0x0201 && flags t == [false, false, false, false, false, false] &&
      t.bus == [r 0x0200 0xD8, r 0x0201 0x55]) = true := by decide

/-- T136 of `95_test_vectors.md`, 46 R236. -/
theorem test_T136_sed :
    runs (start 0x0200 [0xF8] []) (fun t =>
      t.pc == 0x0201 && flags t == [false, false, true, false, false, false] &&
      t.bus == [r 0x0200 0xF8, r 0x0201 0x55]) = true := by decide

/-- T137 of `95_test_vectors.md`, 46 R237. -/
theorem test_T137_clv :
    runs ({ start 0x0200 [0xB8] [] with v := true }) (fun t =>
      t.pc == 0x0201 && flags t == [false, false, false, false, false, false] &&
      t.bus == [r 0x0200 0xB8, r 0x0201 0x55]) = true := by decide

/-- T138 of `95_test_vectors.md`, 46 R238. -/
theorem test_T138_nop :
    runs ({ start 0x0200 [0xEA] [] with a := 0x12, x := 0x34, y := 0x56, n := true, v := true, d := true, i := true, z := true, c := true }) (fun t =>
      t.pc == 0x0201 && flags t == [true, true, true, true, true, true] &&
      t.bus == [r 0x0200 0xEA, r 0x0201 0x55]) = true := by decide

/-- T140 of `95_test_vectors.md`, 30 R99; 60 R255: `PC` stays; one access. -/
theorem test_T140_illegal :
    runs ({ start 0x0200 [0x02] [] with a := 0x12 }) (fun t =>
      t.pc == 0x0200 && flags t == [false, false, false, false, false, false] &&
      t.halt == some (.illegalOpcode 0x0200 0x02) && t.bus == [r 0x0200 0x02]) = true := by decide

/-- T141 of `95_test_vectors.md`, 60 R255. -/
theorem test_T141_illegal :
    runs (start 0xFFFF [0xFF, 0x00] []) (fun t =>
      t.pc == 0xFFFF && flags t == [false, false, false, false, false, false] &&
      t.halt == some (.illegalOpcode 0xFFFF 0xFF) && t.bus == [r 0xFFFF 0xFF]) = true := by decide

/-- T142 of `95_test_vectors.md`, 30 R100; 60 R255: a candidate "NOP variant" is illegal while `UNDOC_NOP_SET` is empty. -/
theorem test_T142_illegal :
    runs (start 0x0200 [0x1A] []) (fun t =>
      t.pc == 0x0200 && flags t == [false, false, false, false, false, false] &&
      t.halt == some (.illegalOpcode 0x0200 0x1A) && t.bus == [r 0x0200 0x1A]) = true := by decide

/-! ### Reset, interrupts and the request latches: vectors `X1` to `X6` -/

/-- The state of `X1` before `Reset()`. -/
def x1 : State :=
  place
    { State.reset with
      a := 0x11, sp := 0x77, pc := 0xBEEF, n := true, v := true, d := true, i := false, z := true
      c := true, halt := some (.illegalOpcode 0xBEEF 0x02), cycles := 1000 }
    [(0xFFFC, 0x00), (0xFFFD, 0x10)]

/-- X1, 70 R290, R291. -/
theorem test_X1_reset :
    (hostReset x1).pc = 0x1000 ∧ (hostReset x1).sp = 0xFD ∧ (hostReset x1).a = 0x11 ∧
      flags (hostReset x1) = [true, true, false, true, true, true] ∧ (hostReset x1).halt = none ∧
      (hostReset x1).cycles = 1002 ∧ (hostReset x1).bus = [r 0xFFFC 0x00, r 0xFFFD 0x10] := by
  decide

/-- X2, 70 R290: an empty machine fetches `EOR $55,X`. -/
theorem test_X2_empty :
    runs State.reset (fun t => t.bus.take 2 == [r 0x5555 0x55, r 0x5556 0x55] && t.halt == none &&
      t.pc == 0x5557) = true := by decide

/-- A build with request inputs at a boundary, `PC = 0202`, `SP = FD`; the vectors of `X3` and `X5`. -/
def requested (irq nmi : Bool) : State :=
  place
    { State.reset with
      pc := 0x0202, i := false, cycles := 0, irqLine := irq, nmiLatch := nmi
      config := { Config.decided with extInterrupts := true } }
    [(0xFFFE, 0x00), (0xFFFF, 0x30), (0xFFFA, 0x00), (0xFFFB, 0x40), (0x3000, 0x40)]

/-- X3, 60 R262, R264, R266: an IRQ is taken. -/
theorem test_X3_irq :
    runs { requested true false with n := true, c := true } (fun t =>
      t.pc == 0x3000 && t.sp == 0xFA && flags t == [true, false, false, true, false, true] &&
      t.halt == none && t.bus == [r 0x0202 0x55, r 0x0202 0x55, w 0x01FD 0x02, w 0x01FC 0x02,
        w 0x01FB 0xA1, r 0xFFFE 0x00, r 0xFFFF 0x30]) = true := by decide

/-- X4, 60 R264: with `I = 1` the IRQ is not taken. -/
theorem test_X4_masked :
    runs { requested true false with n := true, i := true, c := true } (fun t =>
      t.bus.take 2 == [r 0x0202 0x55, r 0x0203 0x55] && t.pc == 0x0204) = true := by decide

/-- X5, 60 R263, R258, R266: an NMI comes before the IRQ, and with `I = 1`. -/
theorem test_X5_nmi :
    runs { requested true true with i := true } (fun t =>
      t.pc == 0x4000 && t.sp == 0xFA && t.i && !t.nmiLatch &&
      t.bus == [r 0x0202 0x55, r 0x0202 0x55, w 0x01FD 0x02, w 0x01FC 0x02, w 0x01FB 0x24,
        r 0xFFFA 0x00, r 0xFFFB 0x40]) = true := by decide

/-- X6, 44 R188, 60 R260: `RTI` in the handler of `X3`. -/
theorem test_X6_rti :
    runs (place { requested true false with pc := 0x3000, sp := 0xFA, n := true, i := true, c := true }
        [(0x01FB, 0xA1), (0x01FC, 0x02), (0x01FD, 0x02)]) (fun t =>
      t.pc == 0x0202 && t.sp == 0xFD && flags t == [true, false, false, false, false, true] &&
      t.bus == [r 0x3000 0x40, r 0x3001 0x55, r 0x01FA 0x55, r 0x01FB 0xA1, r 0x01FC 0x02,
        r 0x01FD 0x02]) = true := by decide

/-- X7, 60 R253: what the host reports. -/
theorem test_X7_timeout : timeoutReport { State.reset with cycles := 77 } = .timeout 77 := by decide

/-- 60 R251: after `BRK` the core does not step until the host clears the latch. -/
theorem test_halted_brk :
    step { State.reset with halt := some (.brk 0x0200) } = .refused (.haltedAtBrk 0x0200) ∧
      (clearBrk { State.reset with halt := some (.brk 0x0200) }).halt = none := by
  exact ⟨rfl, rfl⟩

/-! ### Undocumented no-operations (R100) -/

/-- A build that takes `1C` as a no-operation of mode `ABSX`, and one byte of each other shape. -/
def undocBuild : Config :=
  { Config.decided with
    undocNops := [(0x1C, .absx), (0x1A, .imp), (0x80, .im), (0x04, .zp), (0x14, .zpx)] }

/-- R100 with R127: the data read and the page-cross dummy read are made, nothing else changes. -/
theorem test_undoc_absx :
    runs { start 0x0200 [0x1C, 0xFF, 0x12] [] with x := 0x01, config := undocBuild } (fun t =>
      t.pc == 0x0203 && t.halt == none && t.bus == [r 0x0200 0x1C, r 0x0201 0xFF, r 0x0202 0x12,
        r 0x1200 0x55, r 0x1300 0x55]) = true := by decide

/-! ### The host's placing of one instruction -/

/-- The instruction placed is the one the next step runs: `LDA #$80`. -/
theorem test_withFetchWord :
    runs (State.reset.withFetchWord 16 0x80A9) (fun t => t.a == 0x80 && t.n && t.pc == 0x5557)
      = true := by decide

/-- Also from a halted state with a request waiting: `INX`. -/
theorem test_withFetchWord_halted :
    runs ((requested true true).setHalt (some (.brk 0)) |>.withFetchWord 8 0xE8) (fun t =>
      t.x == 0x01 && t.pc == 0x0203) = true := by decide

/-! ### Witnesses: states and operands that meet the hypotheses of the obligations -/

/-- A state at an instruction. -/
theorem witness_StepRunsDecoded :
    (start 0x0200 [0xA9, 0x05] []).AtInstruction ∧
      decode (start 0x0200 [0xA9, 0x05] []).codeBytes = .ok (.ldaIm 0x05, [0x55]) :=
  ⟨by decide, rfl⟩

theorem witness_EncodeOfDecode : decode [0xA9, 0x05, 0x55] = .ok (.ldaIm 0x05, [0x55]) := rfl

theorem witness_EveryRunningStepCompletes : State.reset.halt = none := rfl

/-- One state per reason the latch can hold, and per clause of the statement. -/
theorem witness_HaltedCoreDoesNotStep :
    ({ State.reset with halt := some (.brk 0x0200) } : State).halt = some (.brk 0x0200) ∧
      (x1.halt = some (.illegalOpcode 0xBEEF 0x02) ∧
        ∀ pc, HaltReason.illegalOpcode 0xBEEF 0x02 ≠ .brk pc) ∧
      ({ State.reset with halt := some (.timeout 9) } : State).halt = some (.timeout 9) :=
  ⟨rfl, ⟨by decide, fun _ => by simp⟩, rfl⟩

/-- The least and the greatest illegal byte. -/
theorem witness_IllegalOpcodeHalts :
    ((start 0x0200 [0x02] []).AtInstruction ∧ (start 0x0200 [0x02] []).load 0x0200 ∈ illegalOpcodes ∧
      ∀ m, (0x02, m) ∉ (start 0x0200 [0x02] []).config.undocNops) ∧
    ((start 0xFFFF [0xFF] []).AtInstruction ∧ (start 0xFFFF [0xFF] []).load 0xFFFF ∈ illegalOpcodes ∧
      ∀ m, (0xFF, m) ∉ (start 0xFFFF [0xFF] []).config.undocNops) :=
  ⟨⟨by decide, by decide, fun m => by cases m <;> decide⟩,
    ⟨by decide, by decide, fun m => by cases m <;> decide⟩⟩

/-- A build that admits some bytes and not the one at `PC` halts on it as well. -/
theorem witness_IllegalOpcodeHalts_other :
    let s := { start 0x0200 [0x02] [] with config := undocBuild }
    s.AtInstruction ∧ s.load s.pc ∈ illegalOpcodes ∧
      ∀ m, (s.load s.pc, m) ∉ s.config.undocNops :=
  ⟨by decide, by decide, fun m => by cases m <;> decide⟩

/-- A state at each shape of undocumented no-operation: memory operand, `IMP`, `IM`. -/
theorem witness_UndocumentedNopRuns :
    ∀ p ∈ [((0x1C : Byte), NopMode.absx), (0x1A, .imp), (0x80, .im), (0x04, .zp), (0x14, .zpx)],
      let s := { start 0x0200 [p.1, 0xFF, 0x12] [] with config := undocBuild }
      s.AtInstruction ∧ s.load s.pc ∈ illegalOpcodes ∧ (s.load s.pc, p.2) ∈ s.config.undocNops ∧
        ∀ q ∈ s.config.undocNops, q.1 = s.load s.pc → q.2 = p.2 := by
  decide

theorem witness_NmiTaken :
    (requested false true).halt = none ∧ (requested false true).config.extInterrupts = true ∧
      (requested false true).nmiLatch = true := by decide

/-- A build with a masked IRQ waiting. -/
def masked : State := { requested true false with i := true }

/-- A state for each of the three clauses, and the two ways into the third. -/
theorem witness_IrqTakenWhenUnmasked :
    (requested true true).nmiLatch = true ∧
    ((requested true false).nmiLatch = false ∧ (requested true false).irqLine = true ∧
      (requested true false).i = false) ∧
    ((requested false false).nmiLatch = false ∧ (requested false false).irqLine = false) ∧
    (masked.nmiLatch = false ∧ masked.i = true ∧ masked.halt = none ∧
      masked.config.extInterrupts = true ∧
      decode masked.codeBytes = .ok (.eorZpx 0x55, [0x55])) :=
  ⟨by decide, by decide, by decide, by decide, by decide, by decide, by decide, rfl⟩

/-- A state for each clause: a next state, a fault, a refusal. -/
theorem witness_NoRequestInputsByDefault :
    State.reset.config.extInterrupts = false ∧ (∃ t, step State.reset = .next t) ∧
      step { State.reset with halt := some (.illegalOpcode 0 2) } = .fault (.illegalOpcode 0 2) ∧
      step { State.reset with halt := some (.brk 0) } = .refused (.haltedAtBrk 0) :=
  ⟨rfl, ⟨_, rfl⟩, rfl, rfl⟩

/-- Running, at `BRK`, and at an illegal byte: a step keeps each kind of truth about the latch. -/
theorem witness_StepKeepsInv :
    (State.reset.Inv ∧ ∃ t, step State.reset = .next t) ∧
    ((start 0x0200 [0x00] []).Inv ∧
      runs (start 0x0200 [0x00] []) (fun t => t.halt == some (.brk 0x0200)) = true) ∧
    ((start 0x0200 [0x02] []).Inv ∧
      runs (start 0x0200 [0x02] []) (fun t => t.halt == some (.illegalOpcode 0x0200 0x02)) = true) := by
  refine ⟨⟨⟨by decide, trivial⟩, _, rfl⟩, ⟨⟨by decide, ?_⟩, by decide⟩, ⟨by decide, ?_⟩, by decide⟩ <;>
    exact trivial

theorem witness_StepKeepsBuild : ∃ t, step State.reset = .next t := ⟨_, rfl⟩

theorem witness_ClockCountsAccesses : ∃ t, step (requested true false) = .next t := ⟨_, rfl⟩

/-- A `read` that crosses a page and one that does not; a branch not taken, taken, taken across a page. -/
theorem witness_CyclesAreBasePlusPenalty :
    ∀ s ∈ [{ start 0x0200 [0xBD, 0xFF, 0x12] [] with x := 0x01 }, start 0x0200 [0xBD, 0xFF, 0x12] [],
        { start 0x0200 [0xD0, 0x10] [] with z := true }, start 0x0200 [0xD0, 0x10] [],
        start 0x0200 [0xD0, 0x80] []],
      s.AtInstruction ∧ (decode s.codeBytes).toOption ≠ none ∧ runs s (fun _ => true) = true := by
  decide

/-- ReadAccessOrder, WriteAccessOrder, RmwAccessOrder, OneByteDummyRead: an instruction of each kind. -/
theorem witness_AccessOrders :
    (Instr.ldaIm 0).accessKind = .read ∧ (Instr.ldaIndy 0xFF).accessKind = .read ∧
      (Instr.staAbsx 0xFFFF).accessKind = .write ∧ (Instr.rolAbsx 0xFFFF).accessKind = .rmw ∧
      Instr.nop.accessKind = .implied ∧ Instr.rorAcc.accessKind = .acc := by decide

/-- LoadResults, StoreResults, LogicResults, BitTestResult, MemoryIncrementResults, AdcResult, SbcResult,
CompareResults, ShiftResults, RotateResults: an instruction of each mnemonic. -/
theorem witness_Results :
    [Instr.ldaIndy 0xFF, .ldxZpy 0xFF, .ldyAbsx 0xFFFF, .staIndx 0xFF, .stxZpy 0xFF, .styZpx 0xFF,
      .andIm 0, .oraZp 0, .eorIndx 0xFF, .bitAbs 0xFFFF, .incAbsx 0xFFFF, .decZp 0, .adcIm 0xFF,
      .sbcIm 0xFF, .cmpIm 0, .cpxIm 0xFF, .cpyZp 0xFF, .aslAcc, .lsrZp 0, .rolAcc, .rorAbs 0].map
      Instr.mnemonic =
    [.lda, .ldx, .ldy, .sta, .stx, .sty, .and, .ora, .eor, .bit, .inc, .dec, .adc, .sbc, .cmp, .cpx,
      .cpy, .asl, .lsr, .rol, .ror] := by decide

/-- A state in decimal mode. -/
def decimal (a : Byte) : State := { State.reset with d := true, a := a }

/-- AdcResult, SbcResult, AdcOverflowIsSigned, SbcIsDifference, DecimalAddIsDecimal,
DecimalSubtractIsDecimal: a binary state, a decimal state with valid digits at their greatest, and one whose
`A` is the first byte that is not packed decimal. -/
theorem witness_AddAndSubtract :
    ((Instr.adcIm 0x99).mnemonic = .adc ∧ (Instr.sbcIm 0x99).mnemonic = .sbc ∧
      (State.reset.d && State.reset.config.bcdEnabled) = false ∧
      (Instr.adcIm 0x99).operand.byte? State.reset = some 0x99) ∧
    (((decimal 0x99).d && (decimal 0x99).config.bcdEnabled) = true ∧ PackedBcd (decimal 0x99).a ∧
      PackedBcd 0x99 ∧ (Instr.adcIm 0x99).operand.byte? (decimal 0x99) = some 0x99 ∧
      (decimal 0x99).d = true ∧ (decimal 0x99).config.bcdEnabled = true ∧ (Instr.sbcIm 0x99).operand.byte? (decimal 0x99) = some 0x99) ∧
    (((decimal 0x9A).d && (decimal 0x9A).config.bcdEnabled) = true ∧
      ¬ (PackedBcd (decimal 0x9A).a ∧ PackedBcd 0x99)) := by decide

theorem witness_RegisterIncrementResults :
    (0x00 : Byte) = BitVec.ofNat 8 (((0xFF : Byte).toNat + 1) % 256) ∧
      (0xFF : Byte) = BitVec.ofNat 8 (((0x00 : Byte).toNat + 255) % 256) := by decide

/-- A branch taken and one not taken. -/
theorem witness_BranchResults :
    let s := State.reset
    ((Instr.bpl 0x80).mnemonic = .bpl ∧ decide (s.n = false) = true) ∧
      ((Instr.beq 0x7F).mnemonic = .beq ∧ decide (s.z = true) = false) := by decide

/-- PullResults and RtiResult. -/
theorem witness_PullResults : (0x55 : Byte) = State.reset.load (stackAddr (State.reset.sp + 1#8)) := by
  decide

theorem witness_RtsResult :
    (0x5555 : Word) = mkWord (State.reset.load (stackAddr (State.reset.sp + 2#8)))
      (State.reset.load (stackAddr (State.reset.sp + 1#8))) := by decide

theorem witness_CallReturnRoundTrip :
    ∃ t, exec (.jsr 0x2000) { State.reset with sp := 0x00 } = .next t ∧ t.sp = t.sp := ⟨_, rfl, rfl⟩

theorem witness_BreakReturnRoundTrip :
    ∃ t, exec .brk { State.reset with sp := 0x01 } = .next t ∧ t.sp = t.sp ∧
      (2#8 : Byte).toNat < 3 := ⟨_, rfl, rfl, by decide⟩

/-- FlagsKeptByOthers, RegistersKeptByOthers, MemoryKeptByOthers: an instruction in no list of writers. -/
theorem witness_KeptByOthers :
    Instr.nop.mnemonic ∉ writersOfN ∧ Instr.nop.mnemonic ∉ writersOfV ∧
      Instr.nop.mnemonic ∉ writersOfD ∧ Instr.nop.mnemonic ∉ writersOfI ∧
      Instr.nop.mnemonic ∉ writersOfZ ∧ Instr.nop.mnemonic ∉ writersOfC ∧
      Instr.nop.operand ≠ .acc ∧ Instr.nop.accessKind ≠ .write ∧ Instr.nop.accessKind ≠ .rmw ∧
      ∃ t, exec .nop State.reset = .next t :=
  ⟨by decide, by decide, by decide, by decide, by decide, by decide, by decide, by decide, by decide,
    _, rfl⟩

/-- An address on each side of the stack page. -/
theorem witness_PushesStayOnStackPage :
    Instr.pha.mnemonic ∈ [Mnemonic.pha, .php, .jsr, .brk] ∧ (0x00FF#16).toNat < 0x0100 ∧
      0x01FF < (0x0200#16).toNat ∧ ∃ t, exec .pha State.reset = .next t :=
  ⟨by decide, by decide, by decide, _, rfl⟩

end Sys2Proof.Tests
end

section
/-! SUPPORT. What an instruction and a step can do, said once: the operation a mnemonic applies, the
inversion lemma `exec_cases` with one case per access kind, and the inversion lemma `step_cases`. -/

namespace Sys2Proof

open Sys2Proof.Machine

/-- What an instruction of kind `read` does with its operand byte. -/
def Mnemonic.readOp : Mnemonic → Byte → State → State
  | .adc => Machine.adc | .sbc => Machine.sbc
  | .cmp => Machine.cmp | .cpx => Machine.cpx | .cpy => Machine.cpy
  | .lda => loadA | .ldx => loadX | .ldy => loadY
  | .and => andA | .ora => oraA | .eor => eorA | .bit => bitTest
  | _ => fun _ s => s

/-- The register an instruction of kind `write` stores. -/
def Mnemonic.storedByte : Mnemonic → State → Byte
  | .stx => State.x | .sty => State.y | _ => State.a

/-- The function of an instruction of kind `rmw` or `acc`. -/
def Mnemonic.modifyOp : Mnemonic → Byte → State → Byte × State
  | .asl => aslF | .lsr => lsrF | .rol => rolF | .ror => rorF
  | .inc => incF | .dec => decF
  | _ => fun v s => (v, s)

/-- What an instruction of kind `implied` does after its dummy read. -/
def Mnemonic.impliedOp : Mnemonic → State → State
  | .tax, s => loadX s.a s
  | .tay, s => loadY s.a s
  | .txa, s => loadA s.x s
  | .tya, s => loadA s.y s
  | .tsx, s => loadX s.sp s
  | .txs, s => s.setSp s.x
  | .inx, s => loadX (s.x + 1#8) s
  | .iny, s => loadY (s.y + 1#8) s
  | .dex, s => loadX (s.x - 1#8) s
  | .dey, s => loadY (s.y - 1#8) s
  | .clc, s => s.setC false
  | .sec, s => s.setC true
  | .cli, s => s.setI false
  | .sei, s => s.setI true
  | .cld, s => s.setD false
  | .sed, s => s.setD true
  | .clv, s => s.setV false
  | _, s => s

end Sys2Proof

namespace Sys2Proof.Machine

/-- `ExecCase s i t`: the state `t` is what instruction `i` makes of `s`, by access kind
(`30_encoding.md` R97); jumps and stack instructions one by one. -/
inductive ExecCase (s : State) : Instr → State → Prop
  | readImm {i : Instr} {m : Byte} (kind : i.accessKind = .read) (operand : i.operand = .im m) :
    ExecCase s i (i.mnemonic.readOp m s)
  | readMem {i : Instr} {o : MemOperand} (kind : i.accessKind = .read) (operand : i.operand = .mem o) :
    ExecCase s i (i.mnemonic.readOp (o.value s) (o.readAccesses s))
  | store {i : Instr} {o : MemOperand} (kind : i.accessKind = .write) (operand : i.operand = .mem o) :
    ExecCase s i (o.store (i.mnemonic.storedByte s) s)
  | rmw {i : Instr} {o : MemOperand} (kind : i.accessKind = .rmw) (operand : i.operand = .mem o) :
    ExecCase s i (o.rmw i.mnemonic.modifyOp s)
  | acc {i : Instr} (kind : i.accessKind = .acc) (operand : i.operand = .acc) :
    ExecCase s i ((i.mnemonic.modifyOp s.a (s.busRead s.pc)).2.setA
      (i.mnemonic.modifyOp s.a (s.busRead s.pc)).1)
  | implied {i : Instr} (kind : i.accessKind = .implied) (operand : i.operand = .imp) :
    ExecCase s i (i.mnemonic.impliedOp (s.busRead s.pc))
  | branch {i : Instr} {off : Byte} {cond : Bool} {t : State} (kind : i.accessKind = .branch)
    (operand : i.operand = .rel off) (condition : i.mnemonic.condition? s = some cond)
    (result : branch cond off s = .next t) : ExecCase s i t
  | jmpAbs {target : Word} : ExecCase s (.jmpAbs target) (s.setPc target)
  | jmpAbsInd {ptr : Word} : ExecCase s (.jmpAbsInd ptr)
    (((s.busRead ptr).busRead (mkWord (hi ptr) (lo ptr + 1#8))).setPc
      (mkWord (s.load (mkWord (hi ptr) (lo ptr + 1#8))) (s.load ptr)))
  | pha : ExecCase s .pha ((s.busRead s.pc).push s.a)
  | php : ExecCase s .php ((s.busRead s.pc).push (s.pByte true))
  | pla {ready : State} (stackRead : ready = (s.busRead s.pc).busRead (stackAddr s.sp)) :
    ExecCase s .pla (loadA ready.pulled ready.pull)
  | plp {ready : State} (stackRead : ready = (s.busRead s.pc).busRead (stackAddr s.sp)) :
    ExecCase s .plp (ready.pull.setP ready.pulled)
  | jsr {target : Word} : ExecCase s (.jsr target)
    ((((s.busRead (stackAddr s.sp)).push (hi (s.pc - 1#16))).push (lo (s.pc - 1#16))).setPc target)
  | rts {ready : State} {ret : Word} (stackRead : ready = (s.busRead s.pc).busRead (stackAddr s.sp))
    (pulledAddr : ret = mkWord ready.pull.pulled ready.pulled) :
    ExecCase s .rts ((ready.pull.pull.busRead ret).setPc (ret + 1#16))
  | brk : ExecCase s .brk (((s.busRead s.pc).enterInterrupt (s.pc + 1#16) true irqVector).setHalt
      (some (.brk (s.pc - 1#16))))
  | rti : ExecCase s .rti ((s.busRead s.pc).busRead (stackAddr s.sp)).returnFromInterrupt

/-- A branch instruction answers what `branch` answers, which is always a next state. -/
theorem execCase_of_branch {i : Instr} {s : State} {off : Byte} {cond : Bool}
    (kind : i.accessKind = .branch) (operand : i.operand = .rel off)
    (condition : i.mnemonic.condition? s = some cond) (result : exec i s = branch cond off s) :
    ∃ t, exec i s = .next t ∧ ExecCase s i t := by
  obtain ⟨cyc, bus, eq⟩ := branch_next cond off s
  exact ⟨_, result.trans eq, .branch kind operand condition eq⟩

/-- Every instruction answers a next state, the one its case of `ExecCase` names. -/
theorem exec_execCase (i : Instr) (s : State) : ∃ t, exec i s = .next t ∧ ExecCase s i t := by
  cases i
  case adcIm | sbcIm | cmpIm | cpxIm | cpyIm | ldaIm | ldxIm | ldyIm | andIm | oraIm | eorIm =>
    exact ⟨_, rfl, .readImm rfl rfl⟩
  case adcZp | adcZpx | adcAbs | adcAbsx | adcAbsy | adcIndx | adcIndy
      | sbcZp | sbcZpx | sbcAbs | sbcAbsx | sbcAbsy | sbcIndx | sbcIndy
      | cmpZp | cmpZpx | cmpAbs | cmpAbsx | cmpAbsy | cmpIndx | cmpIndy
      | cpxZp | cpxAbs | cpyZp | cpyAbs
      | ldaZp | ldaZpx | ldaAbs | ldaAbsx | ldaAbsy | ldaIndx | ldaIndy
      | ldxZp | ldxZpy | ldxAbs | ldxAbsy | ldyZp | ldyZpx | ldyAbs | ldyAbsx
      | andZp | andZpx | andAbs | andAbsx | andAbsy | andIndx | andIndy
      | oraZp | oraZpx | oraAbs | oraAbsx | oraAbsy | oraIndx | oraIndy
      | eorZp | eorZpx | eorAbs | eorAbsx | eorAbsy | eorIndx | eorIndy | bitZp | bitAbs =>
    exact ⟨_, rfl, .readMem rfl rfl⟩
  case staZp | staZpx | staAbs | staAbsx | staAbsy | staIndx | staIndy
      | stxZp | stxZpy | stxAbs | styZp | styZpx | styAbs =>
    exact ⟨_, rfl, .store rfl rfl⟩
  case aslZp | aslZpx | aslAbs | aslAbsx | lsrZp | lsrZpx | lsrAbs | lsrAbsx
      | rolZp | rolZpx | rolAbs | rolAbsx | rorZp | rorZpx | rorAbs | rorAbsx
      | incZp | incZpx | incAbs | incAbsx | decZp | decZpx | decAbs | decAbsx =>
    exact ⟨_, rfl, .rmw rfl rfl⟩
  case aslAcc | lsrAcc | rolAcc | rorAcc => exact ⟨_, rfl, .acc rfl rfl⟩
  case tax | tay | txa | tya | tsx | txs | inx | iny | dex | dey
      | clc | sec | cli | sei | cld | sed | clv | nop =>
    exact ⟨_, rfl, .implied rfl rfl⟩
  case bpl | bmi | bvc | bvs | bcc | bcs | bne | beq => exact execCase_of_branch rfl rfl rfl rfl
  case jmpAbs => exact ⟨_, rfl, .jmpAbs⟩
  case jmpAbsInd => exact ⟨_, rfl, .jmpAbsInd⟩
  case pha => exact ⟨_, rfl, .pha⟩
  case php => exact ⟨_, rfl, .php⟩
  case pla => exact ⟨_, rfl, .pla rfl⟩
  case plp => exact ⟨_, rfl, .plp rfl⟩
  case jsr => exact ⟨_, rfl, .jsr⟩
  case rts => exact ⟨_, rfl, .rts rfl rfl⟩
  case brk => exact ⟨_, rfl, .brk⟩
  case rti => exact ⟨_, rfl, .rti⟩

/-- What an instruction can do, said once. -/
theorem exec_cases {i : Instr} {s t : State} (h : exec i s = .next t) : ExecCase s i t := by
  obtain ⟨u, hu, case⟩ := exec_execCase i s
  obtain rfl : u = t := Host.Outcome.next.inj (hu.symm.trans h)
  exact case

/-- What a step that answers a next state can do, said once (`30_encoding.md` R96, `60_exceptions.md`
R265). -/
theorem step_cases {s t : State} (h : step s = .next t) :
    (nextAction s = .nmi ∧ t = takeNmi s) ∨
    (nextAction s = .irq ∧ t = takeIrq s) ∨
    (∃ i, nextAction s = .run i ∧ exec i (fetchInstr i s) = .next t) ∨
    (∃ m, nextAction s = .undocNop m ∧ t = runUndocNop m s) ∨
    (nextAction s = .illegal ∧ t = haltIllegal s) := by
  cases action : nextAction s with
  | halted r => cases r <;> simp [step, action, stopHalted] at h
  | nmi | irq | run i | undocNop m | illegal => simpa [step, action, eq_comm] using h

/-! ### What the operations of the mnemonics and the forms of a step leave unchanged -/

section
variable (mn : Mnemonic) (w : Byte) (s : State)

@[simp] theorem readOp_mem : (mn.readOp w s).mem = s.mem := by
  cases mn <;> simp [Mnemonic.readOp]
@[simp] theorem readOp_config : (mn.readOp w s).config = s.config := by
  cases mn <;> simp [Mnemonic.readOp]
@[simp] theorem readOp_irqLine : (mn.readOp w s).irqLine = s.irqLine := by
  cases mn <;> simp [Mnemonic.readOp]

@[simp] theorem modifyOp_mem : (mn.modifyOp w s).2.mem = s.mem := by
  cases mn <;> simp [Mnemonic.modifyOp]
@[simp] theorem modifyOp_config : (mn.modifyOp w s).2.config = s.config := by
  cases mn <;> simp [Mnemonic.modifyOp]
@[simp] theorem modifyOp_irqLine : (mn.modifyOp w s).2.irqLine = s.irqLine := by
  cases mn <;> simp [Mnemonic.modifyOp]

@[simp] theorem impliedOp_mem : (mn.impliedOp s).mem = s.mem := by
  cases mn <;> simp [Mnemonic.impliedOp]
@[simp] theorem impliedOp_config : (mn.impliedOp s).config = s.config := by
  cases mn <;> simp [Mnemonic.impliedOp]
@[simp] theorem impliedOp_irqLine : (mn.impliedOp s).irqLine = s.irqLine := by
  cases mn <;> simp [Mnemonic.impliedOp]

end

section
variable (m : NopMode) (s : State)

@[simp] theorem takeNmi_config : (takeNmi s).config = s.config := by
  simp [takeNmi, State.interruptEntry]
@[simp] theorem takeNmi_irqLine : (takeNmi s).irqLine = s.irqLine := by
  simp [takeNmi, State.interruptEntry]
@[simp] theorem takeIrq_config : (takeIrq s).config = s.config := by
  simp [takeIrq, State.interruptEntry]
@[simp] theorem takeIrq_irqLine : (takeIrq s).irqLine = s.irqLine := by
  simp [takeIrq, State.interruptEntry]
@[simp] theorem haltIllegal_config : (haltIllegal s).config = s.config := rfl
@[simp] theorem haltIllegal_irqLine : (haltIllegal s).irqLine = s.irqLine := rfl
@[simp] theorem runUndocNop_config : (runUndocNop m s).config = s.config := by
  cases m <;> simp [runUndocNop, NopMode.memOperand?]
@[simp] theorem runUndocNop_irqLine : (runUndocNop m s).irqLine = s.irqLine := by
  cases m <;> simp [runUndocNop, NopMode.memOperand?]

end

/-- A branch changes neither memory, nor the build, nor the IRQ line. -/
theorem branch_keeps {cond : Bool} {off : Byte} {s t : State} (h : branch cond off s = .next t) :
    t.mem = s.mem ∧ t.config = s.config ∧ t.irqLine = s.irqLine := by
  obtain ⟨cyc, bus, eq⟩ := branch_next cond off s
  cases eq.symm.trans h
  exact ⟨rfl, rfl, rfl⟩

/-- No instruction changes the build's parameters or the level of the IRQ input. -/
theorem exec_keeps_build {i : Instr} {s t : State} (h : exec i s = .next t) :
    t.config = s.config ∧ t.irqLine = s.irqLine := by
  cases exec_cases h with
  | branch _ _ _ result => exact (branch_keeps result).2
  | pla stackRead | plp stackRead => subst stackRead; simp
  | rts stackRead pulledAddr => subst stackRead; simp
  | rmw => simp [MemOperand.rmw]
  | readImm | readMem | store | acc | implied | jmpAbs | jmpAbsInd | pha | php | jsr | brk | rti =>
    simp

/-- Settles O20: every kind of step keeps the build and the IRQ line; an instruction does by
`exec_keeps_build`. -/
theorem stepKeepsBuild : Obligations.StepKeepsBuild := by
  intro s t h
  obtain ⟨-, rfl⟩ | ⟨-, rfl⟩ | ⟨i, -, hexec⟩ | ⟨m, -, rfl⟩ | ⟨-, rfl⟩ := step_cases h
  · simp
  · simp
  · simpa using exec_keeps_build hexec
  · simp
  · simp

/-- Settles O58: the cases of `exec_cases` that write memory are the kinds `write` and `rmw` and the
four instructions that push. -/
theorem memoryKeptByOthers : Obligations.MemoryKeptByOthers := by
  intro i s t notWrite notRmw notPush h
  cases exec_cases h with
  | store kind => exact absurd kind notWrite
  | rmw kind => exact absurd kind notRmw
  | pha | php | jsr | brk => simp [Instr.mnemonic] at notPush
  | branch _ _ _ result => exact (branch_keeps result).1
  | pla stackRead | plp stackRead => subst stackRead; simp
  | rts stackRead pulledAddr => subst stackRead; simp
  | readImm | readMem | acc | implied | jmpAbs | jmpAbsInd | rti => simp

end Sys2Proof.Machine
end

section
/-! SUPPORT. The frame of every instruction over flags and registers: what the operation of each mnemonic
keeps (`10_state.md` R20 to R24, R32), and that no push leaves page 1 (R24). -/

namespace Sys2Proof.Machine

/-! ### Flags (`10_state.md` R32) -/

/-- From `s` to `t` only flags changed that R32 lets the mnemonic write. -/
def FlagsKept (mn : Mnemonic) (s t : State) : Prop :=
  (mn ∉ writersOfN → t.n = s.n) ∧ (mn ∉ writersOfV → t.v = s.v) ∧
  (mn ∉ writersOfD → t.d = s.d) ∧ (mn ∉ writersOfI → t.i = s.i) ∧
  (mn ∉ writersOfZ → t.z = s.z) ∧ (mn ∉ writersOfC → t.c = s.c)

theorem FlagsKept.refl (mn : Mnemonic) (s : State) : FlagsKept mn s s := by
  simp [FlagsKept]

/-- `P` is pulled only by writers of every flag. -/
theorem flagsKept_of_writes_all {mn : Mnemonic} (h : mn = .plp ∨ mn = .rti) (s t : State) :
    FlagsKept mn s t := by
  obtain rfl | rfl := h <;>
    simp [FlagsKept, writersOfN, writersOfV, writersOfD, writersOfI, writersOfZ, writersOfC]

section
variable (mn : Mnemonic) (w : Byte) (s : State)

theorem readOp_flagsKept : FlagsKept mn s (mn.readOp w s) := by
  cases mn
  case adc | sbc | bit =>
    simp [FlagsKept, Mnemonic.readOp, writersOfN, writersOfV, writersOfZ, writersOfC]
  case cmp | cpx | cpy => simp [FlagsKept, Mnemonic.readOp, writersOfN, writersOfZ, writersOfC]
  case lda | ldx | ldy | and | ora | eor =>
    simp [FlagsKept, Mnemonic.readOp, writersOfN, writersOfZ]
  all_goals exact .refl _ _

theorem modifyOp_flagsKept : FlagsKept mn s (mn.modifyOp w s).2 := by
  cases mn
  case asl | lsr | rol | ror =>
    simp [FlagsKept, Mnemonic.modifyOp, writersOfN, writersOfZ, writersOfC]
  case inc | dec => simp [FlagsKept, Mnemonic.modifyOp, writersOfN, writersOfZ]
  all_goals exact .refl _ _

theorem impliedOp_flagsKept : FlagsKept mn s (mn.impliedOp s) := by
  cases mn
  case tax | tay | txa | tya | tsx | inx | iny | dex | dey =>
    simp [FlagsKept, Mnemonic.impliedOp, writersOfN, writersOfZ]
  case txs => simp [FlagsKept, Mnemonic.impliedOp]
  case clc | sec => simp [FlagsKept, Mnemonic.impliedOp, writersOfC]
  case cli | sei => simp [FlagsKept, Mnemonic.impliedOp, writersOfI]
  case cld | sed => simp [FlagsKept, Mnemonic.impliedOp, writersOfD]
  case clv => simp [FlagsKept, Mnemonic.impliedOp, writersOfV]
  all_goals exact .refl _ _

end

/-- A branch changes `PC`, the clock and the record of the bus only. -/
theorem branch_frame {cond : Bool} {off : Byte} {s t : State} (h : branch cond off s = .next t) :
    t = { s with pc := t.pc, cycles := t.cycles, bus := t.bus } := by
  obtain ⟨cyc, bus, eq⟩ := branch_next cond off s
  cases eq.symm.trans h
  rfl

/-- Settles O56: by access kind, from what the operation of each mnemonic keeps; the accesses around the
operation touch no flag. -/
theorem flagsKeptByOthers : Obligations.FlagsKeptByOthers := by
  intro i s t h
  change FlagsKept i.mnemonic s t
  cases exec_cases h with
  | readImm => exact readOp_flagsKept ..
  | @readMem _ o => simpa [FlagsKept] using readOp_flagsKept i.mnemonic (o.value s) (o.readAccesses s)
  | @rmw _ o =>
    simpa [FlagsKept, MemOperand.rmw] using
      modifyOp_flagsKept i.mnemonic (o.value s) (o.dummyWritten s)
  | acc => simpa [FlagsKept] using modifyOp_flagsKept i.mnemonic s.a (s.busRead s.pc)
  | implied => simpa [FlagsKept] using impliedOp_flagsKept i.mnemonic (s.busRead s.pc)
  | branch _ _ _ result => rw [branch_frame result]; exact .refl _ _
  | plp => exact flagsKept_of_writes_all (.inl rfl) ..
  | rti => exact flagsKept_of_writes_all (.inr rfl) ..
  | pla stackRead =>
    subst stackRead
    simp [FlagsKept, Instr.mnemonic, writersOfN, writersOfZ]
  | rts stackRead => subst stackRead; simp [FlagsKept]
  | brk => simp [FlagsKept, Instr.mnemonic, writersOfI]
  | store | jmpAbs | jmpAbsInd | pha | php | jsr => simp [FlagsKept]

/-! ### Registers, latches and the counter of drawn values -/

/-- From `s` to `t` only registers and latches changed that an instruction of this mnemonic and operand
may write (`10_state.md` R20 to R24, R28, R37, `60_exceptions.md` R262, R263). -/
def RegistersKept (mn : Mnemonic) (o : Operand) (s t : State) : Prop :=
  (mn ∉ [.lda, .pla, .txa, .tya, .adc, .sbc, .and, .ora, .eor] → o ≠ .acc → t.a = s.a) ∧
  (mn ∉ [.ldx, .tax, .tsx, .inx, .dex] → t.x = s.x) ∧
  (mn ∉ [.ldy, .tay, .iny, .dey] → t.y = s.y) ∧
  (mn ∉ [.txs, .pha, .php, .pla, .plp, .jsr, .rts, .brk, .rti] → t.sp = s.sp) ∧
  (mn ∉ [.bpl, .bmi, .bvc, .bvs, .bcc, .bcs, .bne, .beq, .jmp, .jsr, .rts, .brk, .rti] →
    t.pc = s.pc) ∧
  (mn ≠ .brk → t.halt = s.halt) ∧
  t.nmiLatch = s.nmiLatch ∧ t.irqLine = s.irqLine ∧
  (mn ∉ [.adc, .sbc] → t.draws = s.draws)

theorem RegistersKept.refl (mn : Mnemonic) (o : Operand) (s : State) : RegistersKept mn o s s := by
  simp [RegistersKept]

section
variable (mn : Mnemonic) (o : Operand) (w : Byte) (s : State)

theorem readOp_registersKept : RegistersKept mn o s (mn.readOp w s) := by
  cases mn
  case adc | sbc | cmp | cpx | cpy | lda | ldx | ldy | and | ora | eor | bit =>
    simp [RegistersKept, Mnemonic.readOp]
  all_goals exact .refl ..

theorem modifyOp_registersKept : RegistersKept mn o s (mn.modifyOp w s).2 := by
  cases mn
  case asl | lsr | rol | ror | inc | dec => simp [RegistersKept, Mnemonic.modifyOp]
  all_goals exact .refl ..

theorem impliedOp_registersKept : RegistersKept mn o s (mn.impliedOp s) := by
  cases mn
  case tax | tay | txa | tya | tsx | txs | inx | iny | dex | dey
      | clc | sec | cli | sei | cld | sed | clv =>
    simp [RegistersKept, Mnemonic.impliedOp]
  all_goals exact .refl ..

end

/-- Only the eight branches test a condition (`43_branches_jumps.md` R161 to R168). -/
theorem mem_branches_of_condition {mn : Mnemonic} {s : State} {cond : Bool}
    (h : mn.condition? s = some cond) : mn ∈ [.bpl, .bmi, .bvc, .bvs, .bcc, .bcs, .bne, .beq] := by
  cases mn
  case bpl | bmi | bvc | bvs | bcc | bcs | bne | beq => simp
  all_goals simp [Mnemonic.condition?] at h

theorem branch_registersKept {mn : Mnemonic} {o : Operand} {off : Byte} {cond : Bool} {s t : State}
    (condition : mn.condition? s = some cond) (result : branch cond off s = .next t) :
    RegistersKept mn o s t := by
  have writesPc := List.mem_append_left [.jmp, .jsr, .rts, .brk, .rti]
    (mem_branches_of_condition condition)
  rw [branch_frame result]
  simp only [RegistersKept, implies_true, true_and, and_true]
  exact fun h => absurd writesPc h

/-- Settles O57: by access kind, from what the operation of each mnemonic keeps; the accesses around the
operation touch no register. -/
theorem registersKeptByOthers : Obligations.RegistersKeptByOthers := by
  intro i s t h
  change RegistersKept i.mnemonic i.operand s t
  cases exec_cases h with
  | readImm => exact readOp_registersKept ..
  | @readMem _ o =>
    simpa [RegistersKept] using
      readOp_registersKept i.mnemonic i.operand (o.value s) (o.readAccesses s)
  | @rmw _ o =>
    simpa [RegistersKept, MemOperand.rmw] using
      modifyOp_registersKept i.mnemonic i.operand (o.value s) (o.dummyWritten s)
  | acc _ operand =>
    simpa [RegistersKept, operand] using
      modifyOp_registersKept i.mnemonic i.operand s.a (s.busRead s.pc)
  | implied =>
    simpa [RegistersKept] using impliedOp_registersKept i.mnemonic i.operand (s.busRead s.pc)
  | branch _ _ condition result => exact branch_registersKept condition result
  | pla stackRead | plp stackRead | rts stackRead =>
    subst stackRead
    simp [RegistersKept, Instr.mnemonic]
  | store | jmpAbs | jmpAbsInd | pha | php | jsr | brk | rti =>
    simp [RegistersKept, Instr.mnemonic]

/-! ### The stack page (`10_state.md` R24, R26) -/

/-- No address outside page 1 is a stack address, whatever the offset. -/
theorem ne_stackAddr_of_outside {adr : Word} (h : adr.toNat < 0x0100 ∨ 0x01FF < adr.toNat)
    (offset : Byte) : adr ≠ stackAddr offset := by
  rintro rfl
  rw [stackAddr_toNat] at h
  omega

/-- The instructions that push have an access kind of their own (`30_encoding.md` R97). -/
theorem accessKind_of_pushes {i : Instr} (h : i.mnemonic ∈ [.pha, .php, .jsr, .brk]) :
    i.accessKind = .special := by
  simp only [List.mem_cons, List.not_mem_nil, or_false] at h
  obtain h | h | h | h := h <;> simp [Instr.accessKind, Mnemonic.accessKind, h]

/-- Settles O59: every byte the four instructions write goes through `push` or `enterInterrupt`, to a
stack address. -/
theorem pushesStayOnStackPage : Obligations.PushesStayOnStackPage := by
  intro i s t pushes h adr outside
  have offStack := ne_stackAddr_of_outside outside
  have special := accessKind_of_pushes pushes
  cases exec_cases h with
  | readImm kind | readMem kind | store kind | rmw kind | acc kind | implied kind | branch kind =>
    simp [special] at kind
  | jmpAbs | jmpAbsInd | pla | plp | rts | rti => simp [Instr.mnemonic] at pushes
  | pha | php | jsr => simp [offStack]
  | brk => simp [State.enterInterrupt_load, offStack]

/-! ### A step over a decoded instruction, and the state after reset -/

/-- The fetch of an instruction changes `PC`, the clock and the record of the bus only (`20_memory.md`
R56, R65, R66). -/
theorem fetchInstr_eq (i : Instr) (s : State) :
    fetchInstr i s =
      { s with
        pc := s.pc + BitVec.ofNat 16 i.length
        cycles := s.cycles + i.length
        bus := fetchLog s i.length } := by
  apply State.ext
  case bus => exact fetchInstr_bus i s
  all_goals simp [fetchInstr]

/-- Settles O6: the step turns to the decoded instruction (`nextAction_run`), and its fetch is
`fetchInstr_eq`. -/
theorem stepRunsDecoded : Obligations.StepRunsDecoded := by
  intro s i rest atInstruction decoded
  rw [step, nextAction_run atInstruction decoded, ← fetchInstr_eq]

/-- Settles O17: both vector bytes read the fill of a memory nothing has written. -/
theorem resetStateIsZeroLaunch : Obligations.ResetStateIsZeroLaunch :=
  ⟨rfl, rfl, rfl, rfl, rfl, rfl, rfl⟩

/-- Settles O18: an empty memory is canonical, and an empty latch says nothing. -/
theorem invAtReset : Obligations.InvAtReset :=
  ⟨State.reset_mem_wf, trivial⟩

end Sys2Proof.Machine
end

section
/-! SUPPORT. The invariant of every step (`20_memory.md` R50, `60_exceptions.md` R251 to R255): no
instruction and no interrupt entry leaves the canonical form of memory, and the two steps that fill the
latch leave the state it speaks of. -/

namespace Sys2Proof.Machine

/-- A core that steps on has an empty latch (R251). -/
theorem running_of_step {s t : State} (h : step s = .next t) : s.halt = none := by
  cases halt : s.halt with
  | none => rfl
  | some r => cases r <;> simp [step, nextAction, halt, stopHalted] at h

/-- An empty latch says nothing. -/
theorem State.latchOk_of_running {s : State} (h : s.halt = none) : s.LatchOk := by
  simp [State.LatchOk, h]

section
variable (m : NopMode) (s : State)

@[simp] theorem takeNmi_halt : (takeNmi s).halt = s.halt := by
  simp [takeNmi, State.interruptEntry]
@[simp] theorem takeIrq_halt : (takeIrq s).halt = s.halt := by
  simp [takeIrq, State.interruptEntry]
@[simp] theorem runUndocNop_halt : (runUndocNop m s).halt = s.halt := by
  cases m <;> simp [runUndocNop, NopMode.memOperand?]
@[simp] theorem runUndocNop_mem : (runUndocNop m s).mem = s.mem := by
  cases m <;> simp [runUndocNop, NopMode.memOperand?]

end

/-! ### The canonical form of memory -/

theorem interruptEntry_wf (s : State) (vec : Word) (wf : s.mem.wf) :
    (s.interruptEntry vec).mem.wf :=
  State.enterInterrupt_wf _ _ _ _ wf

/-- Whatever an instruction writes, it writes through `busWrite`. -/
theorem exec_wf {i : Instr} {s t : State} (h : exec i s = .next t) (wf : s.mem.wf) : t.mem.wf := by
  cases exec_cases h with
  | store => exact store_wf _ _ _ wf
  | rmw => exact rmw_wf _ _ _ wf (modifyOp_mem i.mnemonic)
  | pha | php => exact State.push_wf _ _ wf
  | jsr => exact State.push_wf _ _ (State.push_wf _ _ wf)
  | brk =>
    rw [State.setHalt_mem]
    exact State.enterInterrupt_wf _ _ _ _ wf
  | branch _ _ _ result => rwa [(branch_keeps result).1]
  | pla stackRead | plp stackRead | rts stackRead => subst stackRead; simpa using wf
  | readImm | readMem | acc | implied | jmpAbs | jmpAbsInd | rti => simpa using wf

theorem step_wf {s t : State} (h : step s = .next t) (wf : s.mem.wf) : t.mem.wf := by
  obtain ⟨-, rfl⟩ | ⟨-, rfl⟩ | ⟨i, -, hexec⟩ | ⟨m, -, rfl⟩ | ⟨-, rfl⟩ := step_cases h
  · exact interruptEntry_wf s.beginStep nmiVector wf
  · exact interruptEntry_wf s.beginStep irqVector wf
  · exact exec_wf hexec (by simpa using wf)
  · simpa using wf
  · exact wf

/-! ### The truth of the latch -/

theorem eq_brk_of_mnemonic {i : Instr} (h : i.mnemonic = .brk) : i = .brk := by
  cases i
  case brk => rfl
  all_goals cases h

/-- Of the instructions only `BRK` fills the latch, and it sets `I` (R254). -/
theorem exec_latchOk {i : Instr} {s t : State} (h : exec i s = .next t) (running : s.halt = none) :
    t.LatchOk := by
  by_cases isBrk : i.mnemonic = .brk
  · obtain rfl := eq_brk_of_mnemonic isBrk
    cases h
    simp [State.LatchOk]
  · obtain ⟨-, -, -, -, -, haltKept, -⟩ := registersKeptByOthers i s t h
    exact State.latchOk_of_running ((haltKept isBrk).trans running)

/-- The list of R99 names every byte that the table of R98 leaves out. -/
theorem mem_illegalOpcodes_of_template {b : Byte} (h : template b = none) : b ∈ illegalOpcodes := by
  have complement : ∀ b : Byte, (template b).isNone → b ∈ illegalOpcodes := by decide
  exact complement b (by simp [h])

/-- Three bytes are enough for any row of the table, so only its illegal bytes are refused (R92, R99). -/
theorem mem_illegalOpcodes_of_decode {b l h : Byte} {e : DecodeError}
    (refused : decode [b, l, h] = .error e) : b ∈ illegalOpcodes := by
  apply mem_illegalOpcodes_of_template
  cases row : template b with
  | none => rfl
  | some r => cases r <;> simp [decode, row] at refused

/-- A step turns to an illegal opcode only at a byte of R99. -/
theorem mem_illegalOpcodes_of_nextAction {s : State} (h : nextAction s = .illegal) :
    s.load s.pc ∈ illegalOpcodes := by
  cases decoded : decode s.codeBytes with
  | error e => exact mem_illegalOpcodes_of_decode decoded
  | ok result =>
    simp only [nextAction, decoded] at h
    (repeat' split at h) <;> cases h

/-- The steps that begin with an empty latch leave it empty or true. -/
theorem step_latchOk {s t : State} (h : step s = .next t) : t.LatchOk := by
  have running := running_of_step h
  obtain ⟨-, rfl⟩ | ⟨-, rfl⟩ | ⟨i, -, hexec⟩ | ⟨m, -, rfl⟩ | ⟨illegal, rfl⟩ := step_cases h
  · exact State.latchOk_of_running (by simpa using running)
  · exact State.latchOk_of_running (by simpa using running)
  · exact exec_latchOk hexec (by simpa using running)
  · exact State.latchOk_of_running (by simpa using running)
  · exact ⟨rfl, rfl, mem_illegalOpcodes_of_nextAction illegal⟩

/-- Settles O19: every step keeps the canonical form of memory (`step_wf`) and leaves a truthful latch
(`step_latchOk`). -/
theorem stepKeepsInv : Obligations.StepKeepsInv :=
  fun _ _ ⟨wf, _⟩ h => ⟨step_wf h wf, step_latchOk h⟩

end Sys2Proof.Machine
end

section
/-! SUPPORT. The accesses of a step in order (`20_memory.md` R65 to R68), and the clock that counts them
(R86). -/

namespace Sys2Proof.Machine

/-! ### What the operations of the mnemonics leave unchanged around the accesses -/

section
variable (mn : Mnemonic) (w : Byte) (s : State)

@[simp] theorem readOp_bus : (mn.readOp w s).bus = s.bus := by
  cases mn <;> simp [Mnemonic.readOp]
@[simp] theorem readOp_cycles : (mn.readOp w s).cycles = s.cycles := by
  cases mn <;> simp [Mnemonic.readOp]

@[simp] theorem modifyOp_bus : (mn.modifyOp w s).2.bus = s.bus := by
  cases mn <;> simp [Mnemonic.modifyOp]
@[simp] theorem modifyOp_cycles : (mn.modifyOp w s).2.cycles = s.cycles := by
  cases mn <;> simp [Mnemonic.modifyOp]
@[simp] theorem modifyOp_pc : (mn.modifyOp w s).2.pc = s.pc := by
  cases mn <;> simp [Mnemonic.modifyOp]
@[simp] theorem modifyOp_load (adr : Word) : (mn.modifyOp w s).2.load adr = s.load adr := by
  simp [State.load]

@[simp] theorem impliedOp_bus : (mn.impliedOp s).bus = s.bus := by
  cases mn <;> simp [Mnemonic.impliedOp]
@[simp] theorem impliedOp_cycles : (mn.impliedOp s).cycles = s.cycles := by
  cases mn <;> simp [Mnemonic.impliedOp]
@[simp] theorem impliedOp_pc : (mn.impliedOp s).pc = s.pc := by
  cases mn <;> simp [Mnemonic.impliedOp]

end

/-- Settles O24: immediate operands are fetched with the instruction, and the accesses of a memory
operand are `readAccesses_bus`. -/
theorem readAccessOrder : Obligations.ReadAccessOrder := by
  intro i s kind
  obtain ⟨t, result, case⟩ := exec_execCase i s
  cases case with
  | @readImm _ m _ operand => exact .inl ⟨⟨m, operand⟩, _, result, by simp⟩
  | @readMem _ o _ operand => exact .inr ⟨o, operand, _, result, by simp [readAccesses_bus]⟩
  | store other | rmw other | acc other | implied other | branch other => simp [kind] at other
  | jmpAbs | jmpAbsInd | pha | php | pla | plp | jsr | rts | brk | rti => cases kind

/-! ### Stores -/

theorem store_bus (o : MemOperand) (w : Byte) (s : State) :
    (o.store w s).bus = s.bus ++ approachLog o s ++ [wr (o.ea s) w] := by
  simp [MemOperand.store, fixupAlways_bus, wr]

/-- The register of `STA`, `STX` and `STY` (`45_load_store_transfer.md` R204 to R206). -/
theorem storedByte_eq {mn : Mnemonic} {md : Mode} (kind : mn.accessKind md = .write) (s : State) :
    mn.storedByte s = if mn = .sta then s.a else if mn = .stx then s.x else s.y := by
  cases mn
  case sta | stx | sty => rfl
  case asl | lsr | rol | ror => cases md <;> cases kind
  all_goals cases kind

/-- Settles O25: a store makes the accesses of `store_bus`, and writes the register of its mnemonic. -/
theorem writeAccessOrder : Obligations.WriteAccessOrder := by
  intro i s kind
  obtain ⟨t, result, case⟩ := exec_execCase i s
  cases case with
  | @store _ o _ operand =>
    refine ⟨o, _, operand, result, ?_, ?_⟩
    · simp [store_bus, store_load]
    · simp [store_load, storedByte_eq kind]
  | readImm other | readMem other | rmw other | acc other | implied other | branch other =>
    simp [kind] at other
  | jmpAbs | jmpAbsInd | pha | php | pla | plp | jsr | rts | brk | rti => cases kind

/-! ### Read-modify-write -/

theorem dummyWritten_bus (o : MemOperand) (s : State) :
    (o.dummyWritten s).bus =
      s.bus ++ approachLog o s ++ [rd s (o.ea s), wr (o.ea s) (s.load (o.ea s))] := by
  simp [MemOperand.dummyWritten, fixupAlways_bus, MemOperand.value, rd, wr]

theorem rmw_bus (o : MemOperand) (f : Byte → State → Byte × State) (s : State)
    (hf : ∀ w t, (f w t).2.bus = t.bus) :
    (o.rmw f s).bus = s.bus ++ approachLog o s ++
      [rd s (o.ea s), wr (o.ea s) (s.load (o.ea s)),
        wr (o.ea s) (f (o.value s) (o.dummyWritten s)).1] := by
  simp [MemOperand.rmw, hf, dummyWritten_bus, wr]

/-- The bit rotated in at bit 0 stands where the shift left a 0, so joining it adds it. -/
theorem shiftLeft_or_carry (b : Byte) (c : Bool) :
    b <<< 1 ||| BitVec.ofNat 8 c.toNat = BitVec.ofNat 8 ((b.toNat * 2 + c.toNat) % 256) := by
  have carry : c.toNat < 2 ^ 1 := c.toNat_lt
  have shifted : b.toNat * 2 % 256 = 2 ^ 1 * (b.toNat % 128) := by omega
  have byte : c.toNat % 256 = c.toNat := by omega
  apply BitVec.eq_of_toNat_eq
  simp only [BitVec.toNat_or, BitVec.toNat_shiftLeft, BitVec.toNat_ofNat, Nat.shiftLeft_eq,
    Nat.reducePow, shifted, byte, ← Nat.two_pow_add_eq_or_of_lt carry]
  omega

/-- The bit rotated in at bit 7 stands where the shift left a 0, so joining it adds it. -/
theorem shiftRight_or_carry (b : Byte) (c : Bool) :
    b >>> 1 ||| BitVec.ofNat 8 (c.toNat * 128) = BitVec.ofNat 8 (b.toNat / 2 + 128 * c.toNat) := by
  have shifted : b.toNat / 2 < 2 ^ 7 := by omega
  have byte : c.toNat * 128 % 256 = 2 ^ 7 * c.toNat := by have := c.toNat_lt; omega
  apply BitVec.eq_of_toNat_eq
  simp only [BitVec.toNat_or, BitVec.toNat_ushiftRight, BitVec.toNat_ofNat, Nat.shiftRight_eq_div_pow,
    Nat.reducePow, byte, Nat.pow_one]
  rw [Nat.or_comm, ← Nat.two_pow_add_eq_or_of_lt shifted]
  omega

/-- The byte each function stores is the one the spec's arithmetic names (`42_shift_rotate.md` R151 to
R154, `46_logic_incdec_flags_nop.md` R225, R226). -/
theorem modifyOp_fst (mn : Mnemonic) (b : Byte) (s : State) :
    (mn.modifyOp b s).1 = rmwResult mn b s.c := by
  cases mn
  case asl =>
    apply BitVec.eq_of_toNat_eq
    simp [Mnemonic.modifyOp, aslF, rmwResult, Nat.shiftLeft_eq]
  case lsr =>
    apply BitVec.eq_of_toNat_eq
    simp [Mnemonic.modifyOp, lsrF, rmwResult, Nat.shiftRight_eq_div_pow]
    omega
  case rol => exact shiftLeft_or_carry b s.c
  case ror => exact shiftRight_or_carry b s.c
  case inc =>
    apply BitVec.eq_of_toNat_eq
    simp [Mnemonic.modifyOp, incF, rmwResult]
  case dec =>
    apply BitVec.eq_of_toNat_eq
    simp [Mnemonic.modifyOp, decF, rmwResult, BitVec.toNat_sub, Nat.add_comm]
  all_goals rfl

/-- Settles O26: the accesses are `rmw_bus`, the byte stored is `modifyOp_fst`, and `rmw_load` says what
every address then holds. -/
theorem rmwAccessOrder : Obligations.RmwAccessOrder := by
  intro i s kind
  obtain ⟨t, result, case⟩ := exec_execCase i s
  cases case with
  | @rmw _ o _ operand =>
    have holds := fun adr => rmw_load o i.mnemonic.modifyOp s adr (modifyOp_load _)
    refine ⟨o, _, operand, result, ?_, ?_, fun adr ne => ?_⟩
    · simp [rmw_bus, holds]
    · simp [holds, modifyOp_fst, MemOperand.value]
    · simp [holds, ne]
  | readImm other | readMem other | store other | acc other | implied other | branch other =>
    simp [kind] at other
  | jmpAbs | jmpAbsInd | pha | php | pla | plp | jsr | rts | brk | rti => cases kind

/-! ### One-byte instructions -/

/-- Settles O27: both kinds read at `PC` first, and what follows makes no access. -/
theorem oneByteDummyRead : Obligations.OneByteDummyRead := by
  intro i s kind
  obtain ⟨t, result, case⟩ := exec_execCase i s
  cases case with
  | implied | acc => exact ⟨_, result, by simp [rd], by simp, by simp, by simp⟩
  | readImm other | readMem other | store other | rmw other | branch other => simp [other] at kind
  | jmpAbs | jmpAbsInd | pha | php | pla | plp | jsr | rts | brk | rti =>
    rcases kind with kind | kind <;> cases kind

/-! ### The clock -/

@[simp] theorem fetchLog_length (s : State) (k : Nat) : (fetchLog s k).length = k := by
  simp [fetchLog]

section
variable (o : MemOperand) (s : State)

theorem store_cycles (w : Byte) :
    (o.store w s).cycles = s.cycles + (approachLog o s).length + 1 := by
  simp [MemOperand.store, fixupAlways_cycles]

theorem rmw_cycles (f : Byte → State → Byte × State) (hf : ∀ w t, (f w t).2.cycles = t.cycles) :
    (o.rmw f s).cycles = s.cycles + (approachLog o s).length + 3 := by
  simp [MemOperand.rmw, hf, MemOperand.dummyWritten, fixupAlways_cycles]

end

/-- `InterruptEntry` of `60_exceptions.md` R266 makes five accesses after its two dummy reads. -/
@[simp] theorem State.enterInterrupt_bus_length (s : State) (ret : Word) (b : Bool) (vec : Word) :
    (s.enterInterrupt ret b vec).bus.length = s.bus.length + 5 := by
  simp [State.enterInterrupt]

@[simp] theorem State.returnFromInterrupt_bus_length (s : State) :
    s.returnFromInterrupt.bus.length = s.bus.length + 3 := by
  simp [State.returnFromInterrupt]

/-- A branch makes no access, one, or two (`40_addressing_modes.md` R132), each of them a cycle. -/
theorem branch_clock {cond : Bool} {off : Byte} {s t : State} (h : branch cond off s = .next t) :
    t.cycles + s.bus.length = s.cycles + t.bus.length := by
  cases cond with
  | false => cases h; rfl
  | true =>
    cases h
    split <;> simp +arith

/-- An instruction advances the clock by the accesses it adds to the record of the bus. -/
theorem exec_clock {i : Instr} {s t : State} (h : exec i s = .next t) :
    t.cycles + s.bus.length = s.cycles + t.bus.length := by
  cases exec_cases h with
  | readImm => simp
  | readMem => simp [readAccesses_cycles, readAccesses_bus]; omega
  | store => simp [store_cycles, store_bus]; omega
  | rmw => simp [rmw_cycles, rmw_bus]; omega
  | branch _ _ _ result => exact branch_clock result
  | pla stackRead | plp stackRead | rts stackRead => subst stackRead; simp +arith
  | acc | implied | jmpAbs | jmpAbsInd | pha | php | jsr | brk | rti => simp +arith

/-- An undocumented no-operation makes its fetches and the accesses of its mode. -/
theorem runUndocNop_clock (m : NopMode) (s : State) :
    (runUndocNop m s).cycles = s.cycles + (runUndocNop m s).bus.length := by
  unfold runUndocNop
  dsimp only
  split
  · simp [readAccesses_cycles, readAccesses_bus, State.fetch_bus, Nat.add_assoc]
  · split <;> simp [State.fetch_bus, Nat.add_assoc]

/-- Settles O21: a step begins with an empty record of the bus, and each kind of step advances the clock
by what it adds to it. -/
theorem clockCountsAccesses : Obligations.ClockCountsAccesses := by
  intro s t h
  obtain ⟨-, rfl⟩ | ⟨-, rfl⟩ | ⟨i, -, hexec⟩ | ⟨m, -, rfl⟩ | ⟨-, rfl⟩ := step_cases h
  · simp [takeNmi, State.interruptEntry]
  · simp [takeIrq, State.interruptEntry]
  · have clock := exec_clock hexec
    simpa [Nat.add_right_comm] using clock
  · exact runUndocNop_clock m s
  · rfl

/-! ### Sample words -/

/-- Settles O5: each word is one row of R98 with its operand bytes, low byte first. -/
theorem sampleWordsDecode : Obligations.SampleWordsDecode :=
  ⟨rfl, rfl, rfl, rfl, rfl, rfl, rfl, rfl, rfl, rfl⟩

end Sys2Proof.Machine
end

section
/-! SUPPORT. Decoding and encoding agree (`30_encoding.md` R90 to R94, R98, `40_addressing_modes.md` R136):
a row of the table of R98 filled with operand bytes is what both sides speak of. -/

namespace Sys2Proof

open Sys2Proof.Machine (mkWord hi lo)

/-- The row, filled with these operand bytes, low byte first, is this instruction (R90, R93). -/
inductive Template.Fills : Template → List Byte → Instr → Prop
  | f1 (i : Instr) : Fills (.f1 i) [] i
  | f2 (f : Byte → Instr) (l : Byte) : Fills (.f2 f) [l] (f l)
  | f3 (f : Word → Instr) (w : Word) : Fills (.f3 f) [lo w, hi w] (f w)

/-- Two bytes fill a row of three bytes with the word they make. -/
theorem Template.fills_word (f : Word → Instr) (l h : Byte) :
    Template.Fills (.f3 f) [l, h] (f (mkWord h l)) := by
  simpa using Template.Fills.f3 f (mkWord h l)

/-- Bytes decode to an instruction when their first byte selects a row (R91) that the next bytes fill. -/
theorem decode_eq_ok_iff {bytes : List Byte} {i : Instr} {rest : List Byte} :
    decode bytes = .ok (i, rest) ↔
      ∃ b row operands, template b = some row ∧ row.Fills operands i ∧
        bytes = b :: (operands ++ rest) := by
  constructor
  · intro decoded
    unfold decode at decoded
    split at decoded
    · cases decoded
    · split at decoded <;> cases decoded
      next row => exact ⟨_, _, [], row, .f1 i, rfl⟩
      next l row => exact ⟨_, _, [l], row, .f2 _ l, rfl⟩
      next l h row => exact ⟨_, _, [l, h], row, Template.fills_word _ l h, rfl⟩
  · rintro ⟨b, row, operands, selected, fills, rfl⟩
    cases fills <;> simp [decode, selected]

/-- The instruction's opcode byte, its cell of R136, selects a row of R98 that its operand bytes fill with
the instruction itself. -/
def Instr.InOwnRow (i : Instr) : Prop :=
  ∃ row, template i.opcode = some row ∧ row.Fills i.operand.bytes i

section
variable {i : Instr}

/-! One lookup in the table for each of the 29, 74 and 48 instructions of these lengths. -/

theorem inOwnRow_of_length_one (h : i.length = 1) : i.InOwnRow := by
  cases i <;> cases h <;> exact ⟨_, rfl, .f1 _⟩

theorem inOwnRow_of_length_two (h : i.length = 2) : i.InOwnRow := by
  cases i <;> cases h <;> exact ⟨_, rfl, .f2 _ _⟩

theorem inOwnRow_of_length_three (h : i.length = 3) : i.InOwnRow := by
  cases i <;> cases h <;> exact ⟨_, rfl, .f3 _ _⟩

end

/-- No mode makes an instruction of another length (R90, R92). -/
theorem Mode.length_cases (m : Mode) : m.length = 1 ∨ m.length = 2 ∨ m.length = 3 := by
  cases m <;> simp [Mode.length]

theorem instr_inOwnRow (i : Instr) : i.InOwnRow := by
  obtain one | two | three := i.mode.length_cases
  · exact inOwnRow_of_length_one one
  · exact inOwnRow_of_length_two two
  · exact inOwnRow_of_length_three three

/-- What fills the row of a byte is encoded as that byte and the operand bytes. -/
theorem encode_of_fills {b : Byte} {row : Template} {operands : List Byte} {i : Instr}
    (selected : template b = some row) (fills : row.Fills operands i) :
    encode i = b :: operands := by
  unfold template at selected
  split at selected <;> cases selected <;> cases fills <;> rfl

/-- Settles O1: the encoding stands in the row its opcode byte selects, `instr_inOwnRow`. -/
theorem decodeOfEncode : Obligations.DecodeOfEncode := by
  intro i rest
  obtain ⟨row, selected, fills⟩ := instr_inOwnRow i
  exact decode_eq_ok_iff.mpr ⟨i.opcode, row, i.operand.bytes, selected, fills, rfl⟩

/-- Settles O2: the bytes are a row filled with operand bytes, and `encode_of_fills` writes it back. -/
theorem encodeOfDecode : Obligations.EncodeOfDecode := by
  intro bytes i rest decoded
  obtain ⟨b, row, operands, selected, fills, rfl⟩ := decode_eq_ok_iff.mp decoded
  rw [encode_of_fills selected fills, List.cons_append]

/-! ### The illegal bytes (R94, R99) -/

/-- The table of R98 has no row for a byte of R99. -/
theorem template_of_mem_illegalOpcodes {b : Byte} (h : b ∈ illegalOpcodes) : template b = none := by
  have disjoint : illegalOpcodes.all fun b => (template b).isNone := by decide
  exact Option.isNone_iff_eq_none.mp (List.all_eq_true.mp disjoint b h)

/-- The decoder names a byte as illegal when the table has no row for it; a missing operand byte is
another error. -/
theorem decode_eq_illegal_iff {b : Byte} {rest : List Byte} :
    decode (b :: rest) = .error (.illegalOpcode b) ↔ template b = none := by
  refine ⟨fun refused => ?_, fun noRow => by simp [decode, noRow]⟩
  cases row : template b with
  | none => rfl
  | some r =>
    cases r with
    | f1 i => simp [decode, row] at refused
    | f2 f => cases rest <;> simp [decode, row] at refused
    | f3 f => rcases rest with _ | ⟨l, _ | ⟨h, rest⟩⟩ <;> simp [decode, row] at refused

/-- Settles O3: the bytes without a row are those of R99. -/
theorem illegalBytesRefused : Obligations.IllegalBytesRefused := by
  intro b rest
  rw [decode_eq_illegal_iff]
  exact ⟨Machine.mem_illegalOpcodes_of_template, template_of_mem_illegalOpcodes⟩

end Sys2Proof
end

section
/-! SUPPORT. The step that meets an illegal byte (`30_encoding.md` R99, R100, `60_exceptions.md` R251,
R255): it halts, or runs the no-operation that the build admits. -/

namespace Sys2Proof.Machine

/-- At an illegal byte the step turns to the no-operation the build admits there, or to none. -/
theorem nextAction_of_mem_illegalOpcodes {s : State} (h : s.AtInstruction)
    (illegal : s.load s.pc ∈ illegalOpcodes) :
    nextAction s = (undocMode? s.config (s.load s.pc)).elim .illegal .undocNop := by
  have refused : decode s.codeBytes = .error (.illegalOpcode (s.load s.pc)) :=
    (illegalBytesRefused _ _).mpr illegal
  obtain ⟨running, noNmi, noIrq⟩ := h
  simp only [nextAction, running, noNmi, noIrq, refused]
  cases undocMode? s.config (s.load s.pc) <;> rfl

/-! ### A byte that no entry admits -/

/-- The step of R255 reads the byte once and fills the latch. -/
theorem haltIllegal_eq (s : State) :
    haltIllegal s =
      { s with
        cycles := s.cycles + 1
        bus := [rd s s.pc]
        halt := some (.illegalOpcode s.pc (s.load s.pc)) } := rfl

theorem step_of_latched_illegalOpcode {s : State} {pc : Word} {byte : Byte}
    (h : s.halt = some (.illegalOpcode pc byte)) : step s = .fault (.illegalOpcode pc byte) := by
  simp [step, nextAction, h, stopHalted]

/-- The host may not clear an `IllegalOpcode` latch (R251). -/
theorem clearBrk_of_latched_illegalOpcode {s : State} {pc : Word} {byte : Byte}
    (h : s.halt = some (.illegalOpcode pc byte)) : clearBrk s = s := by
  simp [clearBrk, h]

/-- Settles O10: no entry admits the byte, so the step is `haltIllegal`, whose latch decides the rest. -/
theorem illegalOpcodeHalts : Obligations.IllegalOpcodeHalts := by
  intro s atInstruction illegal noEntry
  have action : nextAction s = .illegal := by
    rw [nextAction_of_mem_illegalOpcodes atInstruction illegal, undocMode?_eq_none noEntry]
    rfl
  have latched : (haltIllegal s).halt = some (.illegalOpcode s.pc (s.load s.pc)) := rfl
  exact ⟨haltIllegal s, by rw [step, action], haltIllegal_eq s, step_of_latched_illegalOpcode latched,
    clearBrk_of_latched_illegalOpcode latched, rfl⟩

/-! ### A byte that the build admits -/

/-- A step begins with an empty record of the bus, so its fetches stand first in it. -/
theorem beginStep_fetch_bus (s : State) (k : Nat) : (s.beginStep.fetch k).bus = fetchLog s k :=
  State.fetch_bus s.beginStep k

section
variable (m : NopMode) (s : State)

/-- An undocumented no-operation changes `PC`, the clock and the record of the bus only (R100). -/
theorem runUndocNop_eq :
    runUndocNop m s =
      { s with
        pc := s.pc + BitVec.ofNat 16 (1 + m.operandBytes)
        cycles := s.cycles + (runUndocNop m s).bus.length
        bus := (runUndocNop m s).bus } := by
  apply State.ext
  case cycles => exact runUndocNop_clock m s
  case bus => rfl
  all_goals cases m <;> simp [runUndocNop, NopMode.memOperand?]

/-- In a mode with an effective address: the fetches, then the accesses of a `read` in that mode. -/
theorem runUndocNop_bus_of_memOperand {o : MemOperand}
    (h : m.memOperand? (s.load (s.pc + 1#16)) (s.load (s.pc + 2#16)) = some o) :
    (runUndocNop m s).bus = fetchLog s (1 + m.operandBytes) ++ readLog o s := by
  have log : readLog o (s.beginStep.fetch (1 + m.operandBytes)) = readLog o s :=
    readLog_congr _ _ _ (by simp) (by simp) (by simp)
  simp only [runUndocNop, h, readAccesses_bus, beginStep_fetch_bus, log]

/-- In mode `IMP`: the fetch, then the dummy read of access kind `implied`. -/
theorem runUndocNop_imp_bus :
    (runUndocNop .imp s).bus = fetchLog s 1 ++ [rd s (s.pc + 1#16)] := by
  simp [runUndocNop, NopMode.memOperand?, NopMode.operandBytes, beginStep_fetch_bus, rd]

/-- In mode `IM`: the fetches only. -/
theorem runUndocNop_im_bus : (runUndocNop .im s).bus = fetchLog s 2 := by
  simp [runUndocNop, NopMode.memOperand?, NopMode.operandBytes, beginStep_fetch_bus]

end

/-- Settles O11: the one entry for the byte is found, and its no-operation makes the accesses of its
mode. -/
theorem undocumentedNopRuns : Obligations.UndocumentedNopRuns := by
  refine ⟨fun s m atInstruction illegal entry one => ?_, rfl⟩
  have action : nextAction s = .undocNop m := by
    rw [nextAction_of_mem_illegalOpcodes atInstruction illegal, undocMode?_eq_some entry one]
    rfl
  rw [step, action]
  dsimp only
  rw [runUndocNop_eq]
  cases m
  case imp => rw [runUndocNop_imp_bus]; rfl
  case im => rw [runUndocNop_im_bus]; simp [NopMode.memOperand?, NopMode.operandBytes]
  all_goals rw [runUndocNop_bus_of_memOperand _ _ rfl]; rfl

end Sys2Proof.Machine
end

section
/-! SUPPORT. Effective addresses as arithmetic on unsigned numbers (`40_addressing_modes.md` R123 to R131,
R135). -/

namespace Sys2Proof.Machine

theorem zext16_toNat (b : Byte) : (zext16 b).toNat = b.toNat := by
  simp [zext16]
  omega

/-- A zero-extended byte is an address of page 0. -/
theorem load_zext16 (s : State) (b : Byte) : s.load (zext16 b) = s.mem.read b.toNat := by
  rw [State.load, zext16_toNat]

theorem add_zext16_toNat (w : Word) (b : Byte) :
    (w + zext16 b).toNat = (w.toNat + b.toNat) % 65536 := by
  rw [BitVec.toNat_add, zext16_toNat]

/-- The pointer of `INDX` is little-endian in page 0, both of its addresses modulo 256 (R130). -/
theorem indxPointer_toNat (l : Byte) (s : State) :
    (indxPointer l s).toNat =
      (s.mem.read ((l.toNat + s.x.toNat) % 256)).toNat +
        256 * (s.mem.read ((l.toNat + s.x.toNat + 1) % 256)).toNat := by
  have next : (l + s.x + 1#8).toNat = (l.toNat + s.x.toNat + 1) % 256 := by simp [BitVec.toNat_add]
  rw [indxPointer, mkWord_toNat, load_zext16, load_zext16, next, BitVec.toNat_add, Nat.add_comm]

/-- The pointer of `INDY` is little-endian in page 0, its second address modulo 256 (R131). -/
theorem indyPointer_toNat (l : Byte) (s : State) :
    (indyPointer l s).toNat =
      (s.mem.read l.toNat).toNat + 256 * (s.mem.read ((l.toNat + 1) % 256)).toNat := by
  have next : (l + 1#8).toNat = (l.toNat + 1) % 256 := BitVec.toNat_add l 1#8
  rw [indyPointer, mkWord_toNat, load_zext16, load_zext16, next, Nat.add_comm]

/-- Settles O23: a zero-extended byte keeps its number, and sums wrap at the width they are made in. -/
theorem effectiveAddresses : Obligations.EffectiveAddresses := by
  intro s l w
  refine ⟨zext16_toNat l, ?_, ?_, rfl, add_zext16_toNat w s.x, add_zext16_toNat w s.y,
    indxPointer_toNat l s, ?_⟩
  · exact (zext16_toNat _).trans (BitVec.toNat_add l s.x)
  · exact (zext16_toNat _).trans (BitVec.toNat_add l s.y)
  · exact (add_zext16_toNat _ s.y).trans (by rw [indyPointer_toNat])

end Sys2Proof.Machine
end

section
/-! SUPPORT. The pairs of mnemonic and mode that have an instruction are those of the table of
`40_addressing_modes.md` R136, and every instruction answers a next state (R135,
`60_exceptions.md` R256). -/

namespace Sys2Proof

/-- One instruction for each mode of a mnemonic, in the order of `Mnemonic.modes`, with operand 0. -/
def Mnemonic.instrs : Mnemonic → List Instr
  | .adc => [.adcIm 0, .adcZp 0, .adcZpx 0, .adcAbs 0, .adcAbsx 0, .adcAbsy 0, .adcIndx 0, .adcIndy 0]
  | .sbc => [.sbcIm 0, .sbcZp 0, .sbcZpx 0, .sbcAbs 0, .sbcAbsx 0, .sbcAbsy 0, .sbcIndx 0, .sbcIndy 0]
  | .cmp => [.cmpIm 0, .cmpZp 0, .cmpZpx 0, .cmpAbs 0, .cmpAbsx 0, .cmpAbsy 0, .cmpIndx 0, .cmpIndy 0]
  | .cpx => [.cpxIm 0, .cpxZp 0, .cpxAbs 0]
  | .cpy => [.cpyIm 0, .cpyZp 0, .cpyAbs 0]
  | .asl => [.aslAcc, .aslZp 0, .aslZpx 0, .aslAbs 0, .aslAbsx 0]
  | .lsr => [.lsrAcc, .lsrZp 0, .lsrZpx 0, .lsrAbs 0, .lsrAbsx 0]
  | .rol => [.rolAcc, .rolZp 0, .rolZpx 0, .rolAbs 0, .rolAbsx 0]
  | .ror => [.rorAcc, .rorZp 0, .rorZpx 0, .rorAbs 0, .rorAbsx 0]
  | .bpl => [.bpl 0] | .bmi => [.bmi 0] | .bvc => [.bvc 0] | .bvs => [.bvs 0]
  | .bcc => [.bcc 0] | .bcs => [.bcs 0] | .bne => [.bne 0] | .beq => [.beq 0]
  | .jmp => [.jmpAbs 0, .jmpAbsInd 0]
  | .pha => [.pha] | .php => [.php] | .pla => [.pla] | .plp => [.plp]
  | .jsr => [.jsr 0] | .rts => [.rts] | .brk => [.brk] | .rti => [.rti]
  | .lda => [.ldaIm 0, .ldaZp 0, .ldaZpx 0, .ldaAbs 0, .ldaAbsx 0, .ldaAbsy 0, .ldaIndx 0, .ldaIndy 0]
  | .ldx => [.ldxIm 0, .ldxZp 0, .ldxZpy 0, .ldxAbs 0, .ldxAbsy 0]
  | .ldy => [.ldyIm 0, .ldyZp 0, .ldyZpx 0, .ldyAbs 0, .ldyAbsx 0]
  | .sta => [.staZp 0, .staZpx 0, .staAbs 0, .staAbsx 0, .staAbsy 0, .staIndx 0, .staIndy 0]
  | .stx => [.stxZp 0, .stxZpy 0, .stxAbs 0]
  | .sty => [.styZp 0, .styZpx 0, .styAbs 0]
  | .tax => [.tax] | .tay => [.tay] | .txa => [.txa] | .tya => [.tya] | .tsx => [.tsx] | .txs => [.txs]
  | .and => [.andIm 0, .andZp 0, .andZpx 0, .andAbs 0, .andAbsx 0, .andAbsy 0, .andIndx 0, .andIndy 0]
  | .ora => [.oraIm 0, .oraZp 0, .oraZpx 0, .oraAbs 0, .oraAbsx 0, .oraAbsy 0, .oraIndx 0, .oraIndy 0]
  | .eor => [.eorIm 0, .eorZp 0, .eorZpx 0, .eorAbs 0, .eorAbsx 0, .eorAbsy 0, .eorIndx 0, .eorIndy 0]
  | .bit => [.bitZp 0, .bitAbs 0]
  | .inc => [.incZp 0, .incZpx 0, .incAbs 0, .incAbsx 0]
  | .dec => [.decZp 0, .decZpx 0, .decAbs 0, .decAbsx 0]
  | .inx => [.inx] | .iny => [.iny] | .dex => [.dex] | .dey => [.dey]
  | .clc => [.clc] | .sec => [.sec] | .cli => [.cli] | .sei => [.sei]
  | .cld => [.cld] | .sed => [.sed] | .clv => [.clv] | .nop => [.nop]

theorem Mnemonic.instrs_pairs (m : Mnemonic) :
    m.instrs.map (fun i => (i.mnemonic, i.mode)) = m.modes.map (Prod.mk m) := by
  cases m <;> rfl

/-- A pair of R136 is the pair of the instruction that stands at its place in `Mnemonic.instrs`. -/
theorem exists_instr_of_validPair {m : Mnemonic} {md : Mode} (valid : validPair m md) :
    ∃ i : Instr, i.mnemonic = m ∧ i.mode = md := by
  have listed : (m, md) ∈ m.instrs.map (fun i => (i.mnemonic, i.mode)) := by
    rw [m.instrs_pairs]
    exact List.mem_map_of_mem valid
  obtain ⟨i, -, pair⟩ := List.mem_map.mp listed
  exact ⟨i, Prod.mk.inj pair⟩

/-- No constructor of `Instr` has a pair outside R136. -/
theorem instr_wellFormed (i : Instr) : i.WellFormed := by
  cases i <;> exact of_decide_eq_true rfl

/-- Settles O4: each pair of the table has its instruction, and no instruction has another pair. -/
theorem pairsOfModeTable : Obligations.PairsOfModeTable := by
  refine fun m md => ⟨?_, exists_instr_of_validPair⟩
  rintro ⟨i, rfl, rfl⟩
  exact instr_wellFormed i

/-- Settles O8: `exec_execCase` goes through the instructions by access kind and names each next state. -/
theorem everyInstructionCompletes : Obligations.EveryInstructionCompletes := by
  intro i s
  obtain ⟨t, answered, -⟩ := Machine.exec_execCase i s
  exact ⟨t, answered⟩

end Sys2Proof
end

section
/-! SUPPORT. What every instruction of kind `read` answers (`30_encoding.md` R97, R98, R301): the operation
of its mnemonic on its operand byte, the clock ahead by the accesses of its row. -/

namespace Sys2Proof

open Sys2Proof.Machine

/-- The rows of a mnemonic are those of the instructions listed for it (R98, R136). -/
theorem Instr.row_mem (i : Instr) : i.row ∈ i.mnemonic.instrs.map Instr.row := by
  cases i <;> exact of_decide_eq_true rfl

/-- The accesses of kind `read` after the operand bytes when the indexing crosses no page
(`40_addressing_modes.md` R123 to R128, R130, R131). -/
def MemOperand.baseReads : MemOperand → Nat
  | .zp _ | .abs _ | .absx _ | .absy _ => 1
  | .zpx _ | .zpy _ => 2
  | .indy _ => 3
  | .indx _ => 4

/-- The base cycles of a `read` are the fetches and the accesses of its mode, row by row of R98. -/
theorem baseCycles_of_read {i : Instr} {o : MemOperand} (kind : i.accessKind = .read)
    (operand : i.operand = .mem o) : i.baseCycles = i.length + o.baseReads := by
  cases i <;> cases kind <;> cases operand <;> rfl

/-- In mode `IM` there is no access after the fetches (R122). -/
theorem baseCycles_of_read_im {i : Instr} {m : Byte} (kind : i.accessKind = .read)
    (operand : i.operand = .im m) : i.baseCycles = i.length := by
  cases i <;> cases kind <;> cases operand <;> rfl

end Sys2Proof

namespace Sys2Proof.Machine

/-- The penalty of a `read` is the dummy read of an indexing that crosses a page (R301). -/
theorem readLog_length {i : Instr} {o : MemOperand} (kind : i.accessKind = .read)
    (operand : i.operand = .mem o) (s : State) :
    (readLog o s).length = o.baseReads + i.penalty s := by
  simp only [Instr.penalty, kind, operand]
  cases o
  case absx | absy | indy =>
    simp only [readLog, MemOperand.baseReads, MemOperand.indexing?, pageCrossed, indyPointer,
      Laws.lo_mkWord, decide_eq_true_iff]
    split <;> rfl
  case zp | zpx | zpy | abs | indx => rfl

theorem penalty_of_im {i : Instr} {m : Byte} (operand : i.operand = .im m) (s : State) :
    i.penalty s = 0 := by
  simp [Instr.penalty, operand]

/-- The accesses of a `read` change the clock and the record of the bus only. -/
theorem readAccesses_eq (o : MemOperand) (s : State) :
    o.readAccesses s =
      { s with cycles := (o.readAccesses s).cycles, bus := (o.readAccesses s).bus } := by
  apply State.ext <;> simp

/-- The operation of a mnemonic neither reads nor writes the clock or the record of the bus. -/
theorem readOp_withClock (mn : Mnemonic) (m : Byte) (s : State) (cycles : Nat)
    (bus : List BusAccess) :
    mn.readOp m { s with cycles := cycles, bus := bus } =
      { mn.readOp m s with cycles := cycles, bus := bus } := by
  cases mn
  case adc =>
    simp only [Mnemonic.readOp, adc, adcDecimal]
    split
    · split <;> rfl
    · rfl
  case sbc =>
    simp only [Mnemonic.readOp, sbc, sbcDecimal]
    split
    · split <;> rfl
    · rfl
  all_goals rfl

section
variable {i : Instr} {mn : Mnemonic} {s : State}

theorem accessKind_of_mnemonic (isMn : i.mnemonic = mn) (kind : mn.accessKind i.mode = .read) :
    i.accessKind = .read := by
  rw [Instr.accessKind, isMn, kind]

/-- An instruction of kind `read` has an operand byte. -/
theorem exists_operandByte_of_read (kind : i.accessKind = .read) (s : State) :
    ∃ m, i.operand.byte? s = some m := by
  obtain ⟨t, -, case⟩ := exec_execCase i s
  cases case with
  | readImm _ operand | readMem _ operand => exact ⟨_, by rw [operand]; rfl⟩
  | store other | rmw other | acc other | implied other | branch other => simp [kind] at other
  | jmpAbs | jmpAbsInd | pha | php | pla | plp | jsr | rts | brk | rti => cases kind

/-- An instruction of kind `read` answers what its mnemonic's operation makes of its operand byte. -/
theorem answersNext_readOp {m : Byte} (isMn : i.mnemonic = mn) (kind : mn.accessKind i.mode = .read)
    (byte : i.operand.byte? s = some m) : AnswersNext i s (mn.readOp m s) := by
  subst isMn
  obtain ⟨t, result, case⟩ := exec_execCase i s
  refine ⟨t, result, ?_⟩
  cases case with
  | @readImm _ m' kind operand =>
    obtain rfl : m' = m := by simpa [operand, Operand.byte?] using byte
    exact ⟨rfl, by simp [baseCycles_of_read_im kind operand, penalty_of_im operand]⟩
  | @readMem _ o kind operand =>
    obtain rfl : o.value s = m := by simpa [operand, Operand.byte?, MemOperand.value] using byte
    constructor
    · rw [readAccesses_eq, readOp_withClock]
    · rw [readOp_cycles, readAccesses_cycles, readLog_length kind operand,
        baseCycles_of_read kind operand]
      omega
  | store other | rmw other | acc other | implied other | branch other =>
    cases kind.symm.trans other
  | jmpAbs | jmpAbsInd | pha | php | pla | plp | jsr | rts | brk | rti => cases kind

/-- The row of an instruction of kind `read`, its operand byte, and what it answers. -/
theorem row_and_answersNext (isMn : i.mnemonic = mn) (kind : mn.accessKind i.mode = .read) :
    i.row ∈ mn.instrs.map Instr.row ∧
      ∃ m, i.operand.byte? s = some m ∧ AnswersNext i s (mn.readOp m s) := by
  obtain ⟨m, byte⟩ := exists_operandByte_of_read (accessKind_of_mnemonic isMn kind) s
  exact ⟨isMn ▸ i.row_mem, m, byte, answersNext_readOp isMn kind byte⟩

end

end Sys2Proof.Machine
end

section
/-! SUPPORT. Binary and decimal addition and subtraction, and compares (`41_arithmetic_compare.md`). -/

namespace Sys2Proof.Machine

/-! ### Compares -/

/-- The flags of `r - m` in unsigned arithmetic (R146). -/
theorem compareWith_eq (r m : Byte) (s : State) :
    compareWith r m s =
      { s with
        c := decide (m.toNat ≤ r.toNat)
        z := decide (r = m)
        n := decide (128 ≤ (r.toNat + 256 - m.toNat) % 256) } := by
  have difference : (r - m).toNat = (r.toNat + 256 - m.toNat) % 256 := by
    rw [BitVec.toNat_sub]
    congr 1
    omega
  rw [compareWith, BitVec.msb_eq_decide, difference]
  rfl

/-- Settles O42: each compare answers `compareWith` of its register. -/
theorem compareResults : Obligations.CompareResults := by
  refine fun i s => ⟨fun isCmp => ?_, fun isCpx => ?_, fun isCpy => ?_⟩
  · obtain ⟨row, m, byte, answers⟩ := row_and_answersNext (s := s) isCmp rfl
    exact ⟨row, m, byte, compareWith_eq s.a m s ▸ answers⟩
  · obtain ⟨row, m, byte, answers⟩ := row_and_answersNext (s := s) isCpx rfl
    exact ⟨row, m, byte, compareWith_eq s.x m s ▸ answers⟩
  · obtain ⟨row, m, byte, answers⟩ := row_and_answersNext (s := s) isCpy rfl
    exact ⟨row, m, byte, compareWith_eq s.y m s ▸ answers⟩

/-! ### Binary addition and subtraction -/

/-- The binary formulas of R141 in unsigned arithmetic. -/
theorem adcBinary_eq (m : Byte) (s : State) :
    let sum := s.a.toNat + m.toNat + s.c.toNat
    let result : Byte := BitVec.ofNat 8 (sum % 256)
    adcBinary m s =
      { s with
        a := result
        c := decide (0xFF < sum)
        v := decide ((s.a ^^^ result) &&& (m ^^^ result) &&& 0x80#8 ≠ 0#8)
        z := decide (result = 0#8)
        n := decide (128 ≤ result.toNat) } := by
  intro sum result
  have wraps : BitVec.ofNat 8 sum = result := BitVec.eq_of_toNat_eq (by simp [result])
  simp only [adcBinary, ← wraps, BitVec.msb_eq_decide, ne_eq, decide_not]
  rfl

theorem adcBinary_a_toNat (m : Byte) (s : State) :
    (adcBinary m s).a.toNat = (s.a.toNat + m.toNat + s.c.toNat) % 256 :=
  BitVec.toNat_ofNat _ _

theorem adcBinary_c_iff (m : Byte) (s : State) :
    (adcBinary m s).c = true ↔ 0xFF < s.a.toNat + m.toNat + s.c.toNat :=
  decide_eq_true_iff

/-- `x & 0x80` is the sign bit of `x`. -/
theorem and_0x80_ne_zero_iff (x : Byte) : x &&& 0x80#8 ≠ 0#8 ↔ x.msb = true := by
  have mask : 0x80#8 = BitVec.twoPow 8 7 := rfl
  rw [mask, BitVec.and_twoPow, BitVec.msb_eq_getLsbD_last]
  cases x.getLsbD 7 <;> simp

/-- `V` is set when both operands differ from the result in the sign bit (R141). -/
theorem adcBinary_v_iff_signs (m : Byte) (s : State) :
    (adcBinary m s).v = true ↔
      ¬ (128 ≤ s.a.toNat ↔ 128 ≤ (adcBinary m s).a.toNat) ∧
        ¬ (128 ≤ m.toNat ↔ 128 ≤ (adcBinary m s).a.toNat) := by
  have v : (adcBinary m s).v =
    (((s.a ^^^ (adcBinary m s).a) &&& (m ^^^ (adcBinary m s).a) &&& 0x80#8) != 0#8) := rfl
  rw [v, bne_iff_ne, and_0x80_ne_zero_iff, BitVec.msb_and, BitVec.msb_xor, BitVec.msb_xor]
  simp [BitVec.msb_eq_decide]

/-- `V` says that the signed sum does not fit in a byte (R141). -/
theorem adcBinary_v_iff (m : Byte) (s : State) :
    (adcBinary m s).v = true ↔
      s.a.toInt + m.toInt + s.c.toNat < -128 ∨ 127 < s.a.toInt + m.toInt + s.c.toNat := by
  have carry := s.c.toNat_le
  rw [adcBinary_v_iff_signs, adcBinary_a_toNat, BitVec.toInt_eq_toNat_cond, BitVec.toInt_eq_toNat_cond]
  omega

theorem xor_0xFF_toNat (m : Byte) : (m ^^^ 0xFF#8).toNat = 255 - m.toNat := by
  have flip : m ^^^ 0xFF#8 = ~~~ m := BitVec.xor_allOnes
  rw [flip, BitVec.toNat_not]

section
variable (m : Byte) {s : State}

theorem adc_of_binary (binary : (s.d && s.config.bcdEnabled) = false) : adc m s = adcBinary m s :=
  if_neg (by simp [binary])

theorem sbc_of_binary (binary : (s.d && s.config.bcdEnabled) = false) :
    sbc m s = adcBinary (m ^^^ 0xFF#8) s :=
  if_neg (by simp [binary])

theorem adc_of_decimal (decimal : (s.d && s.config.bcdEnabled) = true) : adc m s = adcDecimal m s :=
  if_pos decimal

theorem sbc_of_decimal (decimal : (s.d && s.config.bcdEnabled) = true) : sbc m s = sbcDecimal m s :=
  if_pos decimal

end

/-- Settles O38: the binary `V` is `adcBinary_v_iff`. -/
theorem adcOverflowIsSigned : Obligations.AdcOverflowIsSigned := by
  intro i s m isAdc byte binary
  obtain ⟨t, result, eq, -⟩ := answersNext_readOp isAdc rfl byte
  rw [Mnemonic.readOp, adc_of_binary m binary] at eq
  refine ⟨t, result, ?_⟩
  rw [eq]
  exact adcBinary_v_iff m s

/-- The sum with the inverted operand, `A + (255 - M) + C`, is 256 more than `A - M - (1 - C)` (R144). -/
theorem adcBinary_inverted_isDifference (m : Byte) (s : State) :
    let t := adcBinary (m ^^^ 0xFF#8) s
    (t.a.toNat : Int) = ((s.a.toNat : Int) - m.toNat - (1 - s.c.toNat)) % 256 ∧
      (t.c = true ↔ 0 ≤ (s.a.toNat : Int) - m.toNat - (1 - s.c.toNat)) ∧
      (t.v = true ↔
        s.a.toInt - m.toInt - (1 - (s.c.toNat : Int)) < -128 ∨
        127 < s.a.toInt - m.toInt - (1 - (s.c.toNat : Int))) := by
  have inverted := xor_0xFF_toNat m
  have signed : (m ^^^ 0xFF#8).toInt = -1 - m.toInt := by
    rw [BitVec.toInt_eq_toNat_cond, BitVec.toInt_eq_toNat_cond, inverted]
    omega
  dsimp only
  rw [adcBinary_a_toNat, adcBinary_c_iff, adcBinary_v_iff, signed, inverted]
  refine ⟨?_, ?_, ?_⟩ <;> omega

/-- Settles O39: a binary `SBC` adds the inverted operand, `adcBinary_inverted_isDifference`. -/
theorem sbcIsDifference : Obligations.SbcIsDifference := by
  intro i s m isSbc byte binary
  obtain ⟨t, result, eq, -⟩ := answersNext_readOp isSbc rfl byte
  rw [Mnemonic.readOp, sbc_of_binary m binary] at eq
  refine ⟨t, result, ?_⟩
  rw [eq]
  exact adcBinary_inverted_isDifference m s

/-! ### Decimal addition and subtraction -/

theorem bcdValid_iff (b : Byte) : bcdValid b = true ↔ PackedBcd b := by
  rw [bcdValid, Bool.and_eq_true, decide_eq_true_iff, decide_eq_true_iff]
  rfl

theorem bcdValid_and_iff (a m : Byte) :
    (bcdValid a && bcdValid m) = true ↔ PackedBcd a ∧ PackedBcd m := by
  rw [Bool.and_eq_true, bcdValid_iff, bcdValid_iff]

section
variable (m : Byte) {s : State}

/-- On valid digits `N`, `V` and `Z` are drawn (R142). -/
theorem adcDecimal_of_valid (valid : PackedBcd s.a ∧ PackedBcd m) :
    adcDecimal m s =
      { s with
        a := BitVec.ofNat 8 (adcDecimalSum s.a m s.c % 256)
        c := decide (0x100 ≤ adcDecimalSum s.a m s.c)
        n := Config.freeBit s.draws
        v := Config.freeBit (s.draws + 1)
        z := Config.freeBit (s.draws + 2)
        draws := s.draws + 3 } := by
  have wraps : BitVec.ofNat 8 (adcDecimalSum s.a m s.c % 256) =
      BitVec.ofNat 8 (adcDecimalSum s.a m s.c) := BitVec.eq_of_toNat_eq (by simp)
  rw [wraps]
  exact if_pos ((bcdValid_and_iff _ _).mpr valid)

/-- On valid digits `N`, `V` and `Z` are drawn, and `C` is the binary borrow (R145). -/
theorem sbcDecimal_of_valid (valid : PackedBcd s.a ∧ PackedBcd m) :
    sbcDecimal m s =
      { s with
        a := BitVec.ofNat 8 (sbcDecimalDiff s.a m s.c % 256).toNat
        c := decide (0xFF < s.a.toNat + (255 - m.toNat) + s.c.toNat)
        n := Config.freeBit s.draws
        v := Config.freeBit (s.draws + 1)
        z := Config.freeBit (s.draws + 2)
        draws := s.draws + 3 } := by
  have wraps : BitVec.ofNat 8 (sbcDecimalDiff s.a m s.c % 256).toNat =
      BitVec.ofInt 8 (sbcDecimalDiff s.a m s.c) :=
    BitVec.eq_of_toNat_eq (by simp; omega)
  rw [wraps, ← xor_0xFF_toNat]
  exact if_pos ((bcdValid_and_iff _ _).mpr valid)

/-- On a byte that is no packed BCD everything the algorithm writes is drawn (R142). -/
theorem adcDecimal_of_invalid (invalid : ¬ (PackedBcd s.a ∧ PackedBcd m)) :
    adcDecimal m s = drawAll s :=
  if_neg (mt (bcdValid_and_iff _ _).mp invalid)

/-- On a byte that is no packed BCD everything the algorithm writes is drawn (R145). -/
theorem sbcDecimal_of_invalid (invalid : ¬ (PackedBcd s.a ∧ PackedBcd m)) :
    sbcDecimal m s = drawAll s :=
  if_neg (mt (bcdValid_and_iff _ _).mp invalid)

end

/-- Settles O36: the three cases are `adcBinary_eq`, `adcDecimal_of_valid` and `adcDecimal_of_invalid`. -/
theorem adcResult : Obligations.AdcResult := by
  intro i s isAdc
  obtain ⟨row, m, byte, answers⟩ := row_and_answersNext (s := s) isAdc rfl
  change AnswersNext i s (adc m s) at answers
  refine ⟨row, m, byte, fun binary => ?_, fun decimal validA validM => ?_, fun decimal invalid => ?_⟩
  · rwa [adc_of_binary m binary, adcBinary_eq] at answers
  · rw [adc_of_decimal m decimal, adcDecimal_of_valid m ⟨validA, validM⟩] at answers
    exact ⟨_, _, _, _, answers⟩
  · rw [adc_of_decimal m decimal, adcDecimal_of_invalid m invalid] at answers
    exact ⟨_, _, _, _, _, _, answers⟩

/-- Settles O37: the three cases are `adcBinary_eq` of the inverted operand, `sbcDecimal_of_valid` and
`sbcDecimal_of_invalid`. -/
theorem sbcResult : Obligations.SbcResult := by
  intro i s isSbc
  obtain ⟨row, m, byte, answers⟩ := row_and_answersNext (s := s) isSbc rfl
  change AnswersNext i s (sbc m s) at answers
  refine ⟨row, m, byte, fun binary => ?_, fun decimal validA validM => ?_, fun decimal invalid => ?_⟩
  · rwa [sbc_of_binary m binary, adcBinary_eq] at answers
  · rw [sbc_of_decimal m decimal, sbcDecimal_of_valid m ⟨validA, validM⟩] at answers
    exact ⟨_, _, _, _, answers⟩
  · rw [sbc_of_decimal m decimal, sbcDecimal_of_invalid m invalid] at answers
    exact ⟨_, _, _, _, _, _, answers⟩

section
variable {a m : Byte} (validA : PackedBcd a) (validM : PackedBcd m) (c : Bool)
include validA validM

/-- The digit algorithm of R142 adds to the decimal sum the values that no decimal digit has: 6 at each
carry of the units, 96 at a carry of the tens. -/
theorem adcDecimalSum_eq {sum : Nat} (h : sum = decValue a + decValue m + c.toNat) :
    adcDecimalSum a m c = sum + 6 * (sum / 10) + 96 * (sum / 100) := by
  have carry := c.toNat_le
  simp only [decValue] at h
  unfold adcDecimalSum
  extract_lets units al t
  have units_eq : units = a.toNat % 16 + m.toNat % 16 + c.toNat := rfl
  have t_eq : t = a.toNat / 16 * 16 + m.toNat / 16 * 16 + al := rfl
  have al_eq : al = units + 6 * (units / 10) := by
    simp only [al]
    split <;> omega
  split <;> omega

/-- The digit algorithm of R145 takes from the decimal difference the values that no decimal digit has: 6
at each borrow of the units, 96 at a borrow of the tens. -/
theorem sbcDecimalDiff_eq {diff : Int} (h : diff = (decValue a : Int) - decValue m - (1 - c.toNat)) :
    sbcDecimalDiff a m c = diff + 6 * (diff / 10) + 96 * (diff / 100) := by
  have carry := c.toNat_le
  simp only [decValue] at h
  unfold sbcDecimalDiff
  extract_lets units al t
  have units_eq : units = ((a.toNat % 16 : Nat) : Int) - (m.toNat % 16 : Nat) + c.toNat - 1 := rfl
  have t_eq : t = ((a.toNat / 16 : Nat) : Int) * 16 - (m.toNat / 16 : Nat) * 16 + al := rfl
  have al_eq : al = units + 6 * (units / 10) := by
    simp only [al]
    split <;> omega
  split <;> omega

/-- On packed BCD the binary borrow is the decimal borrow (R145). -/
theorem binaryBorrow_iff_decimalBorrow :
    0xFF < a.toNat + (255 - m.toNat) + c.toNat ↔
      0 ≤ (decValue a : Int) - decValue m - (1 - c.toNat) := by
  have carry := c.toNat_le
  simp only [decValue]
  omega

end

/-- The byte that the digit algorithms make of a number holds its last two decimal digits, whatever its
hundreds. -/
theorem packedBcd_of_spread {b : Byte} {n : Int}
    (spread : (b.toNat : Int) = (n + 6 * (n / 10) + 96 * (n / 100)) % 256) :
    PackedBcd b ∧ (decValue b : Int) = n % 100 := by
  have digits : (b.toNat : Int) = n % 100 + 6 * (n % 100 / 10) := by omega
  simp only [decValue]
  omega

section
variable {m : Byte} {s : State} (validA : PackedBcd s.a) (validM : PackedBcd m)
include validA validM

/-- The decimal reading of R142. -/
theorem adcDecimal_isDecimal :
    PackedBcd (adcDecimal m s).a ∧
      decValue (adcDecimal m s).a = (decValue s.a + decValue m + s.c.toNat) % 100 ∧
      ((adcDecimal m s).c = true ↔ 100 ≤ decValue s.a + decValue m + s.c.toNat) := by
  rw [adcDecimal_of_valid m ⟨validA, validM⟩]
  generalize total : decValue s.a + decValue m + s.c.toNat = sum
  rw [adcDecimalSum_eq validA validM s.c total.symm]
  obtain ⟨packed, value⟩ := packedBcd_of_spread (n := sum)
    (b := BitVec.ofNat 8 ((sum + 6 * (sum / 10) + 96 * (sum / 100)) % 256)) (by simp)
  exact ⟨packed, by exact_mod_cast value, decide_eq_true_iff.trans (by omega)⟩

/-- The decimal reading of R145. -/
theorem sbcDecimal_isDecimal :
    PackedBcd (sbcDecimal m s).a ∧
      (decValue (sbcDecimal m s).a : Int) =
        ((decValue s.a : Int) - decValue m - (1 - s.c.toNat)) % 100 ∧
      ((sbcDecimal m s).c = true ↔ 0 ≤ (decValue s.a : Int) - decValue m - (1 - s.c.toNat)) := by
  rw [sbcDecimal_of_valid m ⟨validA, validM⟩]
  generalize total : (decValue s.a : Int) - decValue m - (1 - s.c.toNat) = diff
  rw [sbcDecimalDiff_eq validA validM s.c total.symm]
  obtain ⟨packed, value⟩ := packedBcd_of_spread (n := diff)
    (b := BitVec.ofNat 8 ((diff + 6 * (diff / 10) + 96 * (diff / 100)) % 256).toNat) (by
      rw [BitVec.toNat_ofNat]
      omega)
  refine ⟨packed, value, decide_eq_true_iff.trans ?_⟩
  rw [binaryBorrow_iff_decimalBorrow validA validM, total]

end

/-- Settles O40: a decimal `ADC` is `adcDecimal`, read as decimal addition by `adcDecimal_isDecimal`. -/
theorem decimalAddIsDecimal : Obligations.DecimalAddIsDecimal := by
  intro i s m isAdc byte d bcd validA validM
  obtain ⟨t, result, eq, -⟩ := answersNext_readOp isAdc rfl byte
  rw [Mnemonic.readOp, adc_of_decimal m (by simp [d, bcd])] at eq
  refine ⟨t, result, ?_⟩
  rw [eq]
  exact adcDecimal_isDecimal validA validM

/-- Settles O41: a decimal `SBC` is `sbcDecimal`, read as decimal subtraction by `sbcDecimal_isDecimal`. -/
theorem decimalSubtractIsDecimal : Obligations.DecimalSubtractIsDecimal := by
  intro i s m isSbc byte d bcd validA validM
  obtain ⟨t, result, eq, -⟩ := answersNext_readOp isSbc rfl byte
  rw [Mnemonic.readOp, sbc_of_decimal m (by simp [d, bcd])] at eq
  refine ⟨t, result, ?_⟩
  rw [eq]
  exact sbcDecimal_isDecimal validA validM

end Sys2Proof.Machine
end

section
/-! SUPPORT. What every instruction of kinds `rmw` and `acc` answers (`20_memory.md` R68,
`40_addressing_modes.md` R121, `30_encoding.md` R98): the byte of its mnemonic's function goes where the
operand came from, and only `C`, `N`, `Z` and the clock change beside it. -/

namespace Sys2Proof

open Sys2Proof.Machine

/-- The mnemonics that put a byte back where it came from: those of kinds `rmw` and `acc` (R98). -/
def modifiers : List Mnemonic := [.asl, .lsr, .rol, .ror, .inc, .dec]

/-- The `C` a modifier leaves for the byte `b` and the old `C`: the bit shifted out
(`42_shift_rotate.md` R151 to R154), or the old `C` of an increment or decrement (`10_state.md` R32). -/
def Mnemonic.carryOut (mn : Mnemonic) (b : Byte) (c : Bool) : Bool :=
  match mn with
  | .asl | .rol => decide (128 ≤ b.toNat)
  | .lsr | .ror => decide (b.toNat % 2 = 1)
  | _ => c

theorem accessKind_of_modifies {mn : Mnemonic} (modifies : mn ∈ modifiers) (md : Mode) :
    mn.accessKind md = .acc ∨ mn.accessKind md = .rmw := by
  cases mn
  case asl | lsr | rol | ror =>
    by_cases acc : md = .acc
    · exact .inl (if_pos acc)
    · exact .inr (if_neg acc)
  case inc | dec => exact .inr rfl
  all_goals simp [modifiers] at modifies

/-- A read-modify-write makes three accesses at its effective address (R68) after the fetches and those of
its mode, row by row of R98. -/
theorem baseCycles_of_rmw {i : Instr} {o : MemOperand} (kind : i.accessKind = .rmw)
    (operand : i.operand = .mem o) (s : State) :
    i.baseCycles = i.length + (approachLog o s).length + 3 := by
  cases i <;> cases kind <;> cases operand <;> rfl

/-- In mode `ACC` there is one access after the fetch (R121). -/
theorem baseCycles_of_acc {i : Instr} (kind : i.accessKind = .acc) :
    i.baseCycles = i.length + 1 := by
  cases i <;> cases kind <;> rfl

/-- Only reads and branches have a penalty (R301). -/
theorem penalty_of_modifier {i : Instr} (kind : i.accessKind = .acc ∨ i.accessKind = .rmw) (s : State) :
    i.penalty s = 0 := by
  rcases kind with kind | kind <;> simp [Instr.penalty, kind]

end Sys2Proof

namespace Sys2Proof.Machine

/-- The function of a modifier, in the arithmetic of the spec: it stores `rmwResult`, and of the state it
writes the flags `C`, `N` and `Z` alone. -/
theorem modifyOp_eq {mn : Mnemonic} (modifies : mn ∈ modifiers) (b : Byte) (s : State) :
    mn.modifyOp b s =
      (rmwResult mn b s.c,
        { s with
          c := mn.carryOut b s.c
          n := (rmwResult mn b s.c).msb
          z := rmwResult mn b s.c == 0#8 }) := by
  rw [← modifyOp_fst]
  have bitSeven : b.msb = decide (128 ≤ b.toNat) := BitVec.msb_eq_decide b
  have bitZero : b.getLsbD 0 = decide (b.toNat % 2 = 1) := Nat.testBit_zero b.toNat
  cases mn
  case asl | rol => rw [Mnemonic.carryOut, ← bitSeven]; rfl
  case lsr | ror => rw [Mnemonic.carryOut, ← bitZero]; rfl
  case inc | dec => rfl
  all_goals simp [modifiers] at modifies

section
variable {i : Instr}

/-- An instruction of a modifier mnemonic answers its result in place. -/
theorem exists_answersInPlace (modifies : i.mnemonic ∈ modifiers) (s : State) :
    ∃ b, i.operand.byte? s = some b ∧
      AnswersInPlace i s
        { s with
          c := i.mnemonic.carryOut b s.c
          n := (rmwResult i.mnemonic b s.c).msb
          z := rmwResult i.mnemonic b s.c == 0#8 }
        (rmwResult i.mnemonic b s.c) := by
  have kind : i.accessKind = .acc ∨ i.accessKind = .rmw := accessKind_of_modifies modifies i.mode
  obtain ⟨t, result, case⟩ := exec_execCase i s
  cases case with
  | acc acc operand =>
    refine ⟨s.a, by rw [operand]; rfl, .inl ⟨operand, _, result, ?_, ?_⟩⟩
    · rw [modifyOp_eq modifies]
      rfl
    · rw [baseCycles_of_acc acc, penalty_of_modifier kind, State.setA_cycles, modifyOp_cycles,
        State.busRead_cycles]
      omega
  | @rmw _ o rmw operand =>
    refine ⟨o.value s, by rw [operand]; rfl, .inr ⟨o, operand, _, result, ?_, fun adr => ?_, ?_⟩⟩
    · apply State.ext <;> simp [MemOperand.rmw, modifyOp_eq modifies]
    · rw [rmw_load o _ s adr (modifyOp_load _), modifyOp_fst, dummyWritten_c]
    · rw [rmw_cycles o s _ (modifyOp_cycles _), baseCycles_of_rmw rmw operand s,
        penalty_of_modifier kind]
      omega
  | readImm other | readMem other | store other | implied other | branch other =>
    simp [other] at kind
  | jmpAbs | jmpAbsInd | pha | php | pla | plp | jsr | rts | brk | rti =>
    rcases kind with kind | kind <;> cases kind

/-- The row of an instruction of a modifier mnemonic, its operand byte, and what it answers. -/
theorem row_and_answersInPlace {mn : Mnemonic} {s : State} (isMn : i.mnemonic = mn)
    (modifies : mn ∈ modifiers) :
    i.row ∈ mn.instrs.map Instr.row ∧
      ∃ b r, i.operand.byte? s = some b ∧ r = rmwResult mn b s.c ∧
        AnswersInPlace i s { s with c := mn.carryOut b s.c, n := r.msb, z := r == 0#8 } r := by
  subst isMn
  obtain ⟨b, byte, answers⟩ := exists_answersInPlace modifies s
  exact ⟨i.row_mem, b, _, byte, rfl, answers⟩

end

end Sys2Proof.Machine
end

section
/-! SUPPORT. Shifts and rotates (`42_shift_rotate.md`). -/

namespace Sys2Proof.Machine

/-- Settles O43: `ASL` and `LSR` are modifiers; `rmwResult` and `carryOut` are their result and `C`. -/
theorem shiftResults : Obligations.ShiftResults := fun _ _ =>
  ⟨fun isAsl => row_and_answersInPlace isAsl (by decide),
    fun isLsr => row_and_answersInPlace isLsr (by decide)⟩

/-- Settles O44: `ROL` and `ROR` are modifiers; `rmwResult` and `carryOut` are their result and `C`. -/
theorem rotateResults : Obligations.RotateResults := fun _ _ =>
  ⟨fun isRol => row_and_answersInPlace isRol (by decide),
    fun isRor => row_and_answersInPlace isRor (by decide)⟩

/-- A shift or rotate of the accumulator leaves its result in `A` (R121, R150). -/
theorem exec_of_acc {i : Instr} (modifies : i.mnemonic ∈ modifiers) (operand : i.operand = .acc)
    (s : State) :
    ∃ t, exec i s = .next t ∧
      t.a = rmwResult i.mnemonic s.a s.c ∧ t.c = i.mnemonic.carryOut s.a s.c := by
  obtain ⟨b, byte, ⟨-, t, result, eq, -⟩ | ⟨o, memory, -⟩⟩ := exists_answersInPlace modifies s
  · obtain rfl : s.a = b := by simpa [operand, Operand.byte?] using byte
    exact ⟨t, result, by rw [eq], by rw [eq]⟩
  · cases operand.symm.trans memory

theorem toNat_decide (p : Prop) [Decidable p] : (decide p).toNat = if p then 1 else 0 :=
  Bool.cond_decide ..

/-- `ROL A` turns the nine bits of `C` and `A` left: `C` above `A` is what `A` above `C` was (R153). -/
theorem rolAcc_nineBits (s : State) :
    ∃ t, exec .rolAcc s = .next t ∧
      256 * t.c.toNat + t.a.toNat = 2 * s.a.toNat + s.c.toNat := by
  obtain ⟨t, result, a, c⟩ := exec_of_acc (i := .rolAcc) (by decide) rfl s
  refine ⟨t, result, ?_⟩
  have carry := s.c.toNat_lt
  simp only [a, c, Instr.mnemonic, rmwResult, Mnemonic.carryOut, BitVec.toNat_ofNat, toNat_decide]
  split <;> omega

/-- `ROR A` turns them right: `A` above `C` is what `C` above `A` was (R154). -/
theorem rorAcc_nineBits (s : State) :
    ∃ t, exec .rorAcc s = .next t ∧
      2 * t.a.toNat + t.c.toNat = 256 * s.c.toNat + s.a.toNat := by
  obtain ⟨t, result, a, c⟩ := exec_of_acc (i := .rorAcc) (by decide) rfl s
  refine ⟨t, result, ?_⟩
  have carry := s.c.toNat_lt
  simp only [a, c, Instr.mnemonic, rmwResult, Mnemonic.carryOut, BitVec.toNat_ofNat, toNat_decide]
  split <;> omega

/-- The nine bits determine `A` and `C`. -/
theorem a_c_eq_of_nineBits {s u : State}
    (h : 2 * u.a.toNat + u.c.toNat = 2 * s.a.toNat + s.c.toNat) : u.a = s.a ∧ u.c = s.c := by
  have := s.c.toNat_lt
  have := u.c.toNat_lt
  have carries : u.c.toNat = s.c.toNat := by omega
  refine ⟨BitVec.eq_of_toNat_eq (by omega), ?_⟩
  rw [Bool.eq_iff_iff, ← Bool.toNat_eq_one, ← Bool.toNat_eq_one, carries]

/-- Settles O45: each rotation leaves the nine bits the other one turns back. -/
theorem rotatesAreInverse : Obligations.RotatesAreInverse := by
  refine fun s => ⟨?_, ?_⟩
  · obtain ⟨t, rol, left⟩ := rolAcc_nineBits s
    obtain ⟨u, ror, right⟩ := rorAcc_nineBits t
    exact ⟨t, u, rol, ror, a_c_eq_of_nineBits (right.trans left)⟩
  · obtain ⟨t, ror, right⟩ := rorAcc_nineBits s
    obtain ⟨u, rol, left⟩ := rolAcc_nineBits t
    exact ⟨t, u, ror, rol, a_c_eq_of_nineBits (by omega)⟩

end Sys2Proof.Machine
end

section
/-! SUPPORT. Branches and jumps (`43_branches_jumps.md`, `40_addressing_modes.md` R129, R132). -/

namespace Sys2Proof.Machine

/-! ### Branches -/

/-- The accesses of a taken branch (R132): the dummy read at `PC`, and one more at the page of `PC` when
the target is in another page. -/
def takenLog (off : Byte) (s : State) : List BusAccess :=
  [rd s s.pc] ++ if hi (branchTarget off s) = hi s.pc then []
    else [rd s (mkWord (hi s.pc) (lo (branchTarget off s)))]

/-- A branch not taken changes nothing; a taken one makes the accesses of `takenLog` and moves `PC`
(R132, R160). -/
theorem branch_eq (cond : Bool) (off : Byte) (s : State) :
    branch cond off s = .next
      (if cond then
        { s with
          pc := branchTarget off s
          cycles := s.cycles + (takenLog off s).length
          bus := s.bus ++ takenLog off s }
      else s) := by
  cases cond with
  | false => rfl
  | true =>
    refine congrArg Host.Outcome.next (State.ext_iff.mpr ?_)
    by_cases samePage : hi (branchTarget off s) = hi s.pc <;> simp [takenLog, samePage, rd]

/-- An instruction whose mnemonic tests a condition is `branch` on that condition and its offset. -/
theorem exec_eq_branch_of_condition {i : Instr} {s : State} {cond : Bool}
    (condition : i.mnemonic.condition? s = some cond) :
    ∃ off, i.operand = .rel off ∧ exec i s = branch cond off s := by
  cases i
  case bpl | bmi | bvc | bvs | bcc | bcs | bne | beq => cases condition; exact ⟨_, rfl, rfl⟩
  all_goals cases condition

/-- The eight branches: mnemonic, opcode, and whether the state has the flag value that takes the branch
(R161 to R168). -/
def branchTable (s : State) : List (Mnemonic × Byte × Bool) :=
  [(.bpl, 0x10#8, decide (s.n = false)), (.bmi, 0x30#8, decide (s.n = true)),
   (.bvc, 0x50#8, decide (s.v = false)), (.bvs, 0x70#8, decide (s.v = true)),
   (.bcc, 0x90#8, decide (s.c = false)), (.bcs, 0xB0#8, decide (s.c = true)),
   (.bne, 0xD0#8, decide (s.z = false)), (.beq, 0xF0#8, decide (s.z = true))]

/-- The model tests the condition of the table. -/
theorem condition_of_mem_branchTable {mn : Mnemonic} {op : Byte} {cond : Bool} {s : State}
    (h : (mn, op, cond) ∈ branchTable s) : mn.condition? s = some cond := by
  have agree : ∀ e ∈ branchTable s, e.1.condition? s = some e.2.2 := by
    simp [branchTable, Mnemonic.condition?]
  exact agree _ h

/-- A branch has one row, with the opcode of the table (R98). -/
theorem rows_of_mem_branchTable {mn : Mnemonic} {op : Byte} {cond : Bool} {s : State}
    (h : (mn, op, cond) ∈ branchTable s) : mn.instrs.map Instr.row = [(.rel, op, 2)] := by
  have agree : ∀ e ∈ branchTable s, e.1.instrs.map Instr.row = [(.rel, e.2.1, 2)] := by
    simp only [branchTable, List.forall_mem_cons]
    exact ⟨rfl, rfl, rfl, rfl, rfl, rfl, rfl, rfl, List.forall_mem_nil _⟩
  exact agree _ h

/-- Settles O46: each branch of the table is `branch` on its condition, whose result is `branch_eq`. -/
theorem branchResults : Obligations.BranchResults := by
  intro i s op cond listed
  have row := i.row_mem
  rw [rows_of_mem_branchTable listed, List.mem_singleton] at row
  obtain ⟨off, operand, result⟩ := exec_eq_branch_of_condition (condition_of_mem_branchTable listed)
  exact ⟨row, off, operand, result.trans (branch_eq cond off s)⟩

/-! ### Jumps -/

/-- `JMP ($nnnn)` makes the two reads of its pointer, the high byte from the page of the low one (R129). -/
theorem exec_jmpAbsInd (ptr : Word) (s : State) :
    exec (.jmpAbsInd ptr) s = .next
      { s with
        pc := mkWord (s.load (mkWord (hi ptr) (lo ptr + 1#8))) (s.load ptr)
        cycles := s.cycles + 2
        bus := s.bus ++ [rd s ptr, rd s (mkWord (hi ptr) (lo ptr + 1#8))] } := by
  rw [List.append_cons]
  rfl

/-- Settles O47: `JMP $nnnn` writes `PC` alone, and `JMP ($nnnn)` is `exec_jmpAbsInd`. -/
theorem jumpResults : Obligations.JumpResults :=
  fun s w => ⟨rfl, rfl, rfl, exec_jmpAbsInd w s⟩

end Sys2Proof.Machine
end

section
/-! SUPPORT. Stack, subroutine and interrupt instructions (`44_stack_subroutine_interrupt.md`): what each
one answers, and what the return instructions make of the bytes that `JSR` and an interrupt entry leave. -/

namespace Sys2Proof.Machine

/-! ### Push and pull -/

/-- An instruction that makes a dummy read at `PC` and pushes a byte writes that byte alone (R181,
R182). -/
theorem answers_push {i : Instr} {s : State} {w : Byte}
    (result : exec i s = .next ((s.busRead s.pc).push w)) :
    ∃ t, exec i s = .next t ∧
      t = { s with
        sp := s.sp - 1#8, mem := t.mem, cycles := s.cycles + 2
        bus := s.bus ++ [rd s s.pc, wr (stackAddr s.sp) w] } ∧
      ∀ adr, t.load adr = if adr = stackAddr s.sp then w else s.load adr :=
  ⟨_, result, State.ext_iff.mpr (by simp [rd, wr]), State.push_load _ w⟩

/-- Settles O48: both instructions push, `answers_push`; the byte of `PHP` is `Pbyte(1)`. -/
theorem pushResults : Obligations.PushResults := by
  intro s
  obtain ⟨t, result, eq, holds⟩ := answers_push (i := .php) (s := s) rfl
  exact ⟨rfl, rfl, stackAddr_toNat s.sp, answers_push rfl, t, s.pByte true, result, rfl, eq, holds⟩

/-- The two dummy reads of `PLA` and `PLP`, and their pull (R183, R184). -/
theorem stackRead_pull_eq (s : State) :
    ((s.busRead s.pc).busRead (stackAddr s.sp)).pull =
      { s with
        sp := s.sp + 1#8, cycles := s.cycles + 3
        bus := s.bus ++ [rd s s.pc, rd s (stackAddr s.sp), rd s (stackAddr (s.sp + 1#8))] } :=
  State.ext_iff.mpr (by simp [rd, State.pulled])

/-- Settles O49: after `stackRead_pull_eq`, `PLA` writes `A`, `N` and `Z`, and `PLP` the flags. -/
theorem pullResults : Obligations.PullResults := by
  rintro s p rfl
  refine ⟨rfl, rfl, ?_, ?_⟩
  · simp only [exec, execPla, stackRead_pull_eq]
    rfl
  · simp only [exec, execPlp, stackRead_pull_eq]
    rfl

/-! ### Subroutine call and return -/

/-- Settles O50: the two pushes of `JSR` go to different addresses, so each is seen on its own. -/
theorem jsrResult : Obligations.JsrResult := by
  intro s target
  refine ⟨rfl, _, rfl, State.ext_iff.mpr (by simp [rd, wr, BitVec.sub_sub]), fun adr => ?_⟩
  have apart : s.sp ≠ s.sp - 1#8 := by bv_omega
  by_cases high : adr = stackAddr s.sp
  · simp [high, stackAddr_inj, apart]
  · simp [high]

/-- Settles O51: each field is what the two pulls and the dummy read at the pulled address leave in it. -/
theorem rtsResult : Obligations.RtsResult := by
  rintro s ret rfl
  refine ⟨rfl, congrArg Host.Outcome.next (State.ext_iff.mpr ?_)⟩
  simp [rd, State.pulled, BitVec.add_assoc]

/-- Settles O52: `RTS` pulls the two bytes of `PC - 1` that `JSR` pushed, and adds 1. -/
theorem callReturnRoundTrip : Obligations.CallReturnRoundTrip := by
  intro s t u target called sp high low
  obtain ⟨-, t', called', eq, holds⟩ := jsrResult s target
  obtain rfl : t = t' := Host.Outcome.next.inj (called.symm.trans called')
  have usp : u.sp = s.sp - 2#8 := by rw [sp, eq]
  have lowAt : u.sp + 1#8 = s.sp - 1#8 := by bv_omega
  have highAt : u.sp + 2#8 = s.sp := by bv_omega
  have apart : s.sp - 1#8 ≠ s.sp := by bv_omega
  have ret : s.pc - 1#16 =
      mkWord (u.load (stackAddr (u.sp + 2#8))) (u.load (stackAddr (u.sp + 1#8))) := by
    simp [lowAt, highAt, high, low, holds, stackAddr_inj, apart]
  obtain ⟨-, returned⟩ := rtsResult u _ ret
  exact ⟨_, returned, BitVec.sub_add_cancel s.pc 1#16, highAt⟩

/-! ### Interrupt entry and return -/

section
variable (s : State) (ret : Word) (b : Bool) {vec : Word}

/-- The shared tail of every entry leaves what R259 says, with the status byte `Pbyte(b)`. -/
theorem enterInterrupt_entersInterrupt (h : 512 ≤ vec.toNat) (h' : 512 ≤ (vec + 1#16).toNat) :
    EntersInterrupt s (s.enterInterrupt ret b vec) ret (s.pByte b) vec :=
  ⟨State.ext_iff.mpr (by simp [State.enterInterrupt_pc s ret b vec h h', BitVec.sub_sub]),
    State.enterInterrupt_load s ret b vec⟩

end

section
variable {s t : State} {ret : Word} {p : Byte} {vec : Word}

/-- A dummy read before the entry changes only what R259 leaves open. -/
theorem EntersInterrupt.of_busRead {adr : Word} (h : EntersInterrupt (s.busRead adr) t ret p vec) :
    EntersInterrupt s t ret p vec := h

/-- A latch filled after the entry changes only what R259 leaves open. -/
theorem EntersInterrupt.setHalt (h : EntersInterrupt s t ret p vec) (reason : Option HaltReason) :
    EntersInterrupt s (t.setHalt reason) ret p vec := by
  obtain ⟨eq, holds⟩ := h
  exact ⟨congrArg (State.setHalt · reason) eq, holds⟩

end

/-- Settles O53: the dummy read at `PC` and the latch stand around `enterInterrupt_entersInterrupt`. -/
theorem brkResult : Obligations.BrkResult := by
  intro s
  have enters := enterInterrupt_entersInterrupt (s.busRead s.pc) (s.pc + 1#16) true
    (vec := irqVector) (by decide) (by decide)
  refine ⟨rfl, _, s.pByte true, rfl, rfl, enters.of_busRead.setHalt _, rfl, by simp, by simp, ?_⟩
  rw [State.setHalt_bus, State.enterInterrupt_bus _ _ _ _ (by decide) (by decide)]
  simp [irqVector, rd, wr, BitVec.sub_sub]

/-- The three pulls of `RTI` (R188), in order. -/
theorem State.returnFromInterrupt_bus (s : State) :
    s.returnFromInterrupt.bus =
      s.bus ++ [rd s (stackAddr (s.sp + 1#8)), rd s (stackAddr (s.sp + 2#8)),
        rd s (stackAddr (s.sp + 3#8))] := by
  simp [State.returnFromInterrupt, rd, State.pulled, BitVec.add_assoc]

/-- Settles O54: after the two dummy reads each field is what `returnFromInterrupt` pulls into it. -/
theorem rtiResult : Obligations.RtiResult := by
  rintro s p rfl
  refine ⟨rfl, congrArg Host.Outcome.next (State.ext_iff.mpr ?_)⟩
  simp [State.returnFromInterrupt_bus, rd, State.pulled, BitVec.add_assoc]

/-- `RTI`, run with `SP` and the frame as the entry left them, resumes at the pushed address with the
`SP` and the flags of before the entry (R260). -/
theorem rti_resumes {s t u : State} {ret vec : Word} {b : Bool}
    (enters : EntersInterrupt s t ret (s.pByte b) vec) (sp : u.sp = t.sp)
    (frame : ∀ k : Byte, k.toNat < 3 → u.load (stackAddr (s.sp - k)) = t.load (stackAddr (s.sp - k))) :
    ∃ r, exec .rti u = .next r ∧ r.pc = ret ∧ r.sp = s.sp ∧
      r.n = s.n ∧ r.v = s.v ∧ r.d = s.d ∧ r.i = s.i ∧ r.z = s.z ∧ r.c = s.c := by
  obtain ⟨eq, holds⟩ := enters
  have usp : u.sp = s.sp - 3#8 := by rw [sp, eq]
  have statusAt : u.sp + 1#8 = s.sp - 2#8 := by bv_omega
  have lowAt : u.sp + 2#8 = s.sp - 1#8 := by bv_omega
  have highAt : u.sp + 3#8 = s.sp := by bv_omega
  have apart₁ : s.sp - 1#8 ≠ s.sp := by bv_omega
  have apart₂ : s.sp - 2#8 ≠ s.sp := by bv_omega
  have apart₃ : s.sp - 2#8 ≠ s.sp - 1#8 := by bv_omega
  have status : s.pByte b = u.load (stackAddr (u.sp + 1#8)) := by
    rw [statusAt, frame 2#8 (by decide), holds]
    simp [stackAddr_inj, apart₂, apart₃]
  have low : u.load (stackAddr (u.sp + 2#8)) = lo ret := by
    rw [lowAt, frame 1#8 (by decide), holds]
    simp [stackAddr_inj, apart₁]
  have high : u.load (stackAddr (u.sp + 3#8)) = hi ret := by
    rw [highAt]
    simpa [holds] using frame 0#8 (by decide)
  obtain ⟨-, resumed⟩ := rtiResult u _ status
  refine ⟨_, resumed, ?_, highAt, State.setP_pByte s u b⟩
  simp [low, high]

/-- Settles O55: what `BRK` leaves is an entry with return address `PC + 1`, so `rti_resumes`. -/
theorem breakReturnRoundTrip : Obligations.BreakReturnRoundTrip := by
  intro s t u broke sp frame
  obtain ⟨-, t', p, broke', rfl, enters, -⟩ := brkResult s
  obtain rfl : t = t' := Host.Outcome.next.inj (broke.symm.trans broke')
  exact rti_resumes (b := true) enters sp frame

end Sys2Proof.Machine
end

section
/-! SUPPORT. Loads, stores and transfers (`45_load_store_transfer.md`), from what every instruction of
kinds `write` and `implied` answers (`30_encoding.md` R97, R98, R301, `40_addressing_modes.md` R120). -/

namespace Sys2Proof

open Sys2Proof.Machine

section
variable {i : Instr}

/-- Only reads and branches have a penalty (R301). -/
theorem penalty_eq_zero (notRead : i.accessKind ≠ .read) (notBranch : i.accessKind ≠ .branch)
    (s : State) : i.penalty s = 0 := by
  unfold Instr.penalty
  split
  next read _ => exact absurd read notRead
  next branch _ => exact absurd branch notBranch
  next => rfl

/-- A `write` makes one access at its effective address after the fetches and those of its mode, row by
row of R98. -/
theorem baseCycles_of_write {o : MemOperand} (kind : i.accessKind = .write)
    (operand : i.operand = .mem o) (s : State) :
    i.baseCycles = i.length + (approachLog o s).length + 1 := by
  cases i <;> cases kind <;> cases operand <;> rfl

/-- Kind `implied` makes one access after the fetch (R120). -/
theorem baseCycles_of_implied (kind : i.accessKind = .implied) : i.baseCycles = i.length + 1 := by
  cases i <;> cases kind <;> rfl

end

end Sys2Proof

namespace Sys2Proof.Machine

/-! ### Loads -/

/-- Settles O28: each load is a `read` whose operation is `loadA`, `loadX` or `loadY`. -/
theorem loadResults : Obligations.LoadResults := fun _ _ =>
  ⟨fun isLda => row_and_answersNext isLda rfl, fun isLdx => row_and_answersNext isLdx rfl,
    fun isLdy => row_and_answersNext isLdy rfl⟩

/-! ### Stores -/

section
variable {i : Instr} {mn : Mnemonic} {s : State}

/-- An instruction of kind `write` stores the register of its mnemonic at its memory operand. -/
theorem exec_eq_store (kind : i.accessKind = .write) (s : State) :
    ∃ o, i.operand = .mem o ∧ exec i s = .next (o.store (i.mnemonic.storedByte s) s) := by
  obtain ⟨t, result, case⟩ := exec_execCase i s
  cases case with
  | store _ operand => exact ⟨_, operand, result⟩
  | readImm other | readMem other | rmw other | acc other | implied other | branch other =>
    cases kind.symm.trans other
  | jmpAbs | jmpAbsInd | pha | php | pla | plp | jsr | rts | brk | rti => cases kind

/-- A store changes memory, the clock and the record of the bus only. -/
theorem store_eq (o : MemOperand) (w : Byte) (s : State) :
    o.store w s =
      { s with
        mem := (o.store w s).mem, cycles := (o.store w s).cycles, bus := (o.store w s).bus } := by
  apply State.ext <;> simp

/-- The row of an instruction of kind `write`, and what it answers: the register of its mnemonic at the
effective address, and no penalty. -/
theorem row_and_answersStoring (isMn : i.mnemonic = mn) (kind : mn.accessKind i.mode = .write) :
    i.row ∈ mn.instrs.map Instr.row ∧ i.penalty s = 0 ∧
      ∃ o, i.operand = .mem o ∧
        AnswersStoring i s s fun adr => if adr = o.ea s then mn.storedByte s else s.load adr := by
  subst isMn
  have kind : i.accessKind = .write := kind
  have noPenalty : i.penalty s = 0 := penalty_eq_zero (by simp [kind]) (by simp [kind]) s
  obtain ⟨o, operand, result⟩ := exec_eq_store kind s
  refine ⟨i.row_mem, noPenalty, o, operand, _, result, store_eq o _ s, store_load o _ s, ?_⟩
  rw [store_cycles, baseCycles_of_write kind operand s, noPenalty]
  omega

end

/-- Settles O29: each store is a `write` of `A`, `X` or `Y`. -/
theorem storeResults : Obligations.StoreResults := fun _ _ =>
  ⟨fun isSta => row_and_answersStoring isSta rfl, fun isStx => row_and_answersStoring isStx rfl,
    fun isSty => row_and_answersStoring isSty rfl⟩

/-! ### Transfers -/

/-- The operation of a mnemonic neither reads nor writes the clock or the record of the bus. -/
theorem impliedOp_withClock (mn : Mnemonic) (s : State) (cycles : Nat) (bus : List BusAccess) :
    mn.impliedOp { s with cycles := cycles, bus := bus } =
      { mn.impliedOp s with cycles := cycles, bus := bus } := by
  cases mn <;> rfl

section
variable {i : Instr} (kind : i.accessKind = .implied) (s : State)
include kind

/-- An instruction of kind `implied` makes its dummy read, then what its mnemonic does. -/
theorem exec_eq_impliedOp : exec i s = .next (i.mnemonic.impliedOp (s.busRead s.pc)) := by
  obtain ⟨t, result, case⟩ := exec_execCase i s
  cases case with
  | implied => exact result
  | readImm other | readMem other | store other | rmw other | acc other | branch other =>
    cases kind.symm.trans other
  | jmpAbs | jmpAbsInd | pha | php | pla | plp | jsr | rts | brk | rti => cases kind

/-- An instruction of kind `implied` answers what its mnemonic's operation makes of the state. -/
theorem answersNext_impliedOp : AnswersNext i s (i.mnemonic.impliedOp s) := by
  have noPenalty : i.penalty s = 0 := penalty_eq_zero (by simp [kind]) (by simp [kind]) s
  refine ⟨_, exec_eq_impliedOp kind s, ?_, ?_⟩
  · rw [State.busRead, State.access, impliedOp_withClock]
  · rw [impliedOp_cycles, State.busRead_cycles, baseCycles_of_implied kind, noPenalty]
    omega

end

/-- Settles O30: each transfer is of kind `implied`, and its operation moves one byte. -/
theorem transferResults : Obligations.TransferResults := fun s =>
  ⟨⟨rfl, answersNext_impliedOp rfl s⟩, ⟨rfl, answersNext_impliedOp rfl s⟩,
    ⟨rfl, answersNext_impliedOp rfl s⟩, ⟨rfl, answersNext_impliedOp rfl s⟩,
    ⟨rfl, answersNext_impliedOp rfl s⟩, ⟨rfl, answersNext_impliedOp rfl s⟩⟩

end Sys2Proof.Machine
end

section
/-! SUPPORT. Logic, bit test, increment and decrement, flag instructions and `NOP`
(`46_logic_incdec_flags_nop.md`), from what every instruction of its access kind answers. -/

namespace Sys2Proof.Machine

/-! ### Logic -/

/-- Settles O31: each logic instruction is a `read` whose operation loads its bitwise result into `A`. -/
theorem logicResults : Obligations.LogicResults := fun _ _ =>
  ⟨fun isAnd => row_and_answersNext isAnd rfl, fun isOra => row_and_answersNext isOra rfl,
    fun isEor => row_and_answersNext isEor rfl⟩

/-! ### Bit test -/

/-- Bits 7 and 6 of the operand byte in unsigned arithmetic (R224). -/
theorem bitTest_eq (m : Byte) (s : State) :
    bitTest m s =
      { s with
        z := decide (s.a &&& m = 0#8)
        n := decide (128 ≤ m.toNat)
        v := decide (64 ≤ m.toNat % 128) } := by
  have bitSeven : m.getLsbD 7 = decide (128 ≤ m.toNat) := BitVec.msb_eq_decide m
  have bitSix : m.getLsbD 6 = decide (64 ≤ m.toNat % 128) := by
    rw [BitVec.getLsbD, Nat.testBit_eq_decide_div_mod_eq, decide_eq_decide]
    omega
  rw [bitTest, bitSeven, bitSix]
  rfl

/-- Settles O32: `BIT` is a `read` whose operation is `bitTest`. -/
theorem bitTestResult : Obligations.BitTestResult := by
  intro i s isBit
  obtain ⟨row, m, byte, answers⟩ := row_and_answersNext (s := s) isBit rfl
  exact ⟨row, m, byte, bitTest_eq m s ▸ answers⟩

/-! ### Increment and decrement -/

/-- Settles O33: `INC` and `DEC` are modifiers that keep `C`; `rmwResult` is their result. -/
theorem memoryIncrementResults : Obligations.MemoryIncrementResults := fun _ _ =>
  ⟨fun isInc => row_and_answersInPlace isInc (by decide),
    fun isDec => row_and_answersInPlace isDec (by decide)⟩

/-- Settles O34: the four are of kind `implied`, and add or subtract one as `INC` and `DEC` do. -/
theorem registerIncrementResults : Obligations.RegisterIncrementResults := by
  intro s r
  have increment (b : Byte) : b + 1#8 = BitVec.ofNat 8 ((b.toNat + 1) % 256) := modifyOp_fst .inc b s
  have decrement (b : Byte) : b - 1#8 = BitVec.ofNat 8 ((b.toNat + 255) % 256) := modifyOp_fst .dec b s
  refine ⟨rfl, rfl, rfl, rfl, ?inx, ?iny, ?dex, ?dey⟩
  case inx | iny =>
    rw [← increment]
    rintro rfl
    exact answersNext_impliedOp rfl s
  case dex | dey =>
    rw [← decrement]
    rintro rfl
    exact answersNext_impliedOp rfl s

/-! ### Flag instructions and `NOP` -/

/-- Settles O35: each is of kind `implied`; its operation writes one flag, and that of `NOP` nothing. -/
theorem flagInstructionResults : Obligations.FlagInstructionResults := fun s =>
  ⟨⟨rfl, answersNext_impliedOp rfl s⟩, ⟨rfl, answersNext_impliedOp rfl s⟩,
    ⟨rfl, answersNext_impliedOp rfl s⟩, ⟨rfl, answersNext_impliedOp rfl s⟩,
    ⟨rfl, answersNext_impliedOp rfl s⟩, ⟨rfl, answersNext_impliedOp rfl s⟩,
    ⟨rfl, answersNext_impliedOp rfl s⟩, ⟨rfl, answersNext_impliedOp rfl s⟩⟩

end Sys2Proof.Machine
end

section
/-! SUPPORT. What a step turns to at a boundary (`60_exceptions.md` R251, R256, R258, R265): which
states make it halt or take an interrupt, the step of a halted core, and that every other step
completes. -/

namespace Sys2Proof.Machine

section
variable {s : State} {r : HaltReason}

/-! ### The halt latch, then NMI, then IRQ -/

theorem nextAction_eq_halted_iff : nextAction s = .halted r ↔ s.halt = some r := by
  unfold nextAction
  (repeat' split) <;> simp_all

theorem nextAction_eq_nmi_iff : nextAction s = .nmi ↔ s.halt = none ∧ s.nmiPending = true := by
  unfold nextAction
  (repeat' split) <;> simp_all

theorem nextAction_eq_irq_iff :
    nextAction s = .irq ↔ s.halt = none ∧ s.nmiPending = false ∧ s.irqPending = true := by
  unfold nextAction
  (repeat' split) <;> simp_all

/-- A core without request inputs takes no interrupt (R262). -/
theorem atInstruction_of_noRequestInputs (running : s.halt = none)
    (off : s.config.extInterrupts = false) : s.AtInstruction :=
  ⟨running, by simp [State.nmiPending, off], by simp [State.irqPending, off]⟩

/-- With no NMI latched, and no IRQ or a masked one, the instruction at `PC` is next (R265). -/
theorem atInstruction_of_noRequest (running : s.halt = none) (noNmi : s.nmiLatch = false)
    (noIrq : s.irqLine = false ∨ s.i = true) : s.AtInstruction := by
  refine ⟨running, by simp [State.nmiPending, noNmi], ?_⟩
  rcases noIrq with low | masked
  · simp [State.irqPending, low]
  · simp [State.irqPending, masked]

/-! ### A halted core -/

theorem step_of_halted (h : s.halt = some r) : step s = stopHalted r := by
  rw [step, nextAction_eq_halted_iff.mpr h]

theorem stopHalted_ne_next (r : HaltReason) (t : State) : stopHalted r ≠ .next t := by
  cases r <;> simp [stopHalted]

theorem clearBrk_of_brk {pc : Word} (h : s.halt = some (.brk pc)) :
    clearBrk s = { s with halt := none } := by
  rw [clearBrk, h]
  rfl

theorem clearBrk_of_not_brk (h : ∀ pc, s.halt ≠ some (.brk pc)) : clearBrk s = s := by
  unfold clearBrk
  split
  next pc brk => exact absurd brk (h pc)
  next => rfl

end

/-- Settles O9: a step of a halted core is `stopHalted`; `Reset()` empties the latch whatever it
held, and `clearBrk` empties a `Brk` latch alone. -/
theorem haltedCoreDoesNotStep : Obligations.HaltedCoreDoesNotStep := by
  intro s r halted
  refine ⟨fun t => ?_, ?_, rfl, ?_, fun notBrk => clearBrk_of_not_brk fun pc brk => ?_⟩
  · rw [step_of_halted halted]
    exact stopHalted_ne_next r t
  · rintro pc byte rfl
    exact step_of_halted halted
  · rintro pc rfl
    exact clearBrk_of_brk halted
  · exact notBrk pc (Option.some.inj (halted.symm.trans brk))

/-- Settles O7: only a filled latch is answered by a fault or a refusal; an instruction completes,
and the other steps answer a next state by their form. -/
theorem everyRunningStepCompletes : Obligations.EveryRunningStepCompletes := by
  intro s running
  unfold step
  cases action : nextAction s with
  | halted r => simp [nextAction_eq_halted_iff, running] at action
  | run i => exact everyInstructionCompletes i (fetchInstr i s)
  | nmi | irq | undocNop | illegal => exact ⟨_, rfl⟩

end Sys2Proof.Machine
end

section
/-! SUPPORT. `Reset()` and the image (`70_reset_and_hazards.md` R290, R291, R294). -/

namespace Sys2Proof.Machine

/-- Settles O15: the two reads advance the clock and fill the record of the bus, and the rest is
written as R290 says. -/
theorem resetAction : Obligations.ResetAction := fun s =>
  State.ext_iff.mpr (by simp [hostReset, resetVector, rd])

/-- Installing an image changes memory alone (R294). -/
theorem installImage_eq (image : List (Word × Byte)) (s : State) :
    installImage image s = { s with mem := (installImage image s).mem } := by
  induction image generalizing s with
  | nil => rfl
  | cons entry rest ih => exact ih _

/-- Each listed address then holds the byte it is listed with last, and every other its old byte. -/
theorem installImage_read (image : List (Word × Byte)) (s : State) (adr : Word) :
    (installImage image s).mem.read adr.toNat =
      (image.reverse.lookup adr).getD (s.mem.read adr.toNat) := by
  induction image generalizing s with
  | nil => rfl
  | cons entry rest ih =>
    obtain ⟨a, b⟩ := entry
    rw [installImage, ih, load_write, List.reverse_cons, List.lookup_append]
    cases rest.reverse.lookup adr with
    | some last => rfl
    | none =>
      by_cases same : adr = a
      · simp [same]
      · simp [same, List.lookup_cons, beq_eq_false_iff_ne.mpr same]

/-- Settles O16: memory is empty at power-on, so an address the image leaves out reads the fill. -/
theorem imageOverFill : Obligations.ImageOverFill := fun l config image =>
  ⟨_, installImage_eq image _, installImage_read image (State.powerOn l config)⟩

end Sys2Proof.Machine
end

section
/-! SUPPORT. The accesses of an instruction are the columns of `30_encoding.md` R98 and the
penalties of `70_reset_and_hazards.md` R301. -/

namespace Sys2Proof.Machine

/-- The base cycles of a branch are its fetches (R98). -/
theorem baseCycles_of_branch {i : Instr} (kind : i.accessKind = .branch) : i.baseCycles = i.length := by
  cases i <;> cases kind <;> rfl

/-- The penalty of a branch is the accesses it makes when taken (R132, R301). -/
theorem penalty_of_branch {i : Instr} {off : Byte} {cond : Bool} {s : State}
    (kind : i.accessKind = .branch) (operand : i.operand = .rel off)
    (condition : i.mnemonic.condition? s = some cond) :
    i.penalty s = if cond then (takenLog off s).length else 0 := by
  cases cond with
  | false => simp [Instr.penalty, kind, operand, condition]
  | true =>
    simp only [Instr.penalty, kind, operand, condition, takenLog, if_true]
    split <;> rfl

/-- The clock counts an instruction's base cycles and penalty, its fetches included (R300). -/
theorem exec_cycles {i : Instr} {s t : State} (h : exec i s = .next t) :
    t.cycles + i.length = s.cycles + i.baseCycles + i.penalty s := by
  cases exec_cases h with
  | readImm kind operand => simp [baseCycles_of_read_im kind operand, penalty_of_im operand]
  | readMem kind operand =>
    rw [readOp_cycles, readAccesses_cycles, readLog_length kind operand,
      baseCycles_of_read kind operand]
    omega
  | store kind operand =>
    rw [store_cycles, baseCycles_of_write kind operand s,
      penalty_eq_zero (by simp [kind]) (by simp [kind])]
    omega
  | rmw kind operand =>
    rw [rmw_cycles _ _ _ (modifyOp_cycles _), baseCycles_of_rmw kind operand s,
      penalty_of_modifier (.inr kind)]
    omega
  | acc kind =>
    rw [State.setA_cycles, modifyOp_cycles, State.busRead_cycles, baseCycles_of_acc kind,
      penalty_of_modifier (.inl kind)]
    omega
  | implied kind =>
    rw [impliedOp_cycles, State.busRead_cycles, baseCycles_of_implied kind,
      penalty_eq_zero (by simp [kind]) (by simp [kind])]
    omega
  | @branch _ off cond _ kind operand condition result =>
    rw [baseCycles_of_branch kind, penalty_of_branch kind operand condition]
    rw [branch_eq] at result
    cases result
    cases cond <;> simp [Nat.add_right_comm]
  | pla stackRead | plp stackRead | rts stackRead => subst stackRead; rfl
  | brk | rti =>
    simp only [State.setHalt_cycles, State.enterInterrupt_cycles, State.returnFromInterrupt_cycles,
      State.busRead_cycles]
    rfl
  | jmpAbs | jmpAbsInd | pha | php | jsr => rfl

/-- Settles O22: the clock of the step counts its accesses, and the instruction advances it by its
columns (`exec_cycles`); of what the fetch changes the penalty reads `PC` alone. -/
theorem cyclesAreBasePlusPenalty : Obligations.CyclesAreBasePlusPenalty := by
  intro s t i rest atInstruction decoded result
  have clock := clockCountsAccesses s t result
  rw [step, nextAction_run atInstruction decoded] at result
  have cycles := exec_cycles result
  have penalty : i.penalty (fetchInstr i s) =
      i.penalty { s with pc := s.pc + BitVec.ofNat 16 i.length } := by
    rw [fetchInstr_eq]
    rfl
  rw [fetchInstr_cycles, penalty] at cycles
  exact ⟨by omega, clock⟩

end Sys2Proof.Machine
end

section
/-! SUPPORT. The hardware interrupt entry (`60_exceptions.md` R265, R266). -/

namespace Sys2Proof.Machine

@[simp] theorem State.beginStep_pByte (s : State) (b : Bool) : s.beginStep.pByte b = s.pByte b := rfl

/-- `RTI` resumes at the interrupted `PC` after an entry that pushed it (R260). -/
theorem EntersInterrupt.resumesByRti {s t : State} {vec : Word} {b : Bool}
    (h : EntersInterrupt s t s.pc (s.pByte b) vec) : ResumesByRti s t :=
  fun _ sp frame => rti_resumes h sp frame

/-- A latch cleared after the entry changes only what R259 leaves open. -/
theorem EntersInterrupt.setNmi {s t : State} {ret vec : Word} {p : Byte}
    (h : EntersInterrupt s t ret p vec) (latch : Bool) :
    EntersInterrupt s (t.setNmi latch) ret p vec := by
  obtain ⟨eq, holds⟩ := h
  exact ⟨congrArg (State.setNmi · latch) eq, holds⟩

section
variable (s : State) {vec : Word}

theorem interruptEntry_cycles (vec : Word) :
    (s.beginStep.interruptEntry vec).cycles = s.cycles + 7 := by
  simp [State.interruptEntry]

theorem interruptEntry_nmiLatch (vec : Word) :
    (s.beginStep.interruptEntry vec).nmiLatch = s.nmiLatch := by
  simp [State.interruptEntry]

/-- The entry pushes `PC` itself and the status byte with `B = 0`. -/
theorem interruptEntry_entersInterrupt (h : 512 ≤ vec.toNat) (h' : 512 ≤ (vec + 1#16).toNat) :
    EntersInterrupt s (s.beginStep.interruptEntry vec) s.pc (s.pByte false) vec :=
  enterInterrupt_entersInterrupt ((s.beginStep.busRead s.pc).busRead s.pc) s.pc false h h'

/-- The seven accesses of the entry, in order. -/
theorem interruptEntry_bus (h : 512 ≤ vec.toNat) (h' : 512 ≤ (vec + 1#16).toNat) :
    (s.beginStep.interruptEntry vec).bus =
      [rd s s.pc, rd s s.pc, wr (stackAddr s.sp) (hi s.pc), wr (stackAddr (s.sp - 1#8)) (lo s.pc),
        wr (stackAddr (s.sp - 2#8)) (s.pByte false), rd s vec, rd s (vec + 1#16)] := by
  rw [State.interruptEntry, State.enterInterrupt_bus _ _ _ _ h h']
  simp [rd, wr, BitVec.sub_sub]

end

/-- Settles O12: the step is `takeNmi`, the entry through `0xFFFA`, with the latch cleared after. -/
theorem nmiTaken : Obligations.NmiTaken := by
  intro s running ext latched
  have action : nextAction s = .nmi :=
    nextAction_eq_nmi_iff.mpr ⟨running, by simp [State.nmiPending, ext, latched]⟩
  have enters : EntersInterrupt s (takeNmi s) s.pc (s.pByte false) nmiVector :=
    (interruptEntry_entersInterrupt s (by decide) (by decide)).setNmi false
  exact ⟨takeNmi s, s.pByte false, by rw [step, action], rfl, enters, rfl, by simp [running],
    interruptEntry_cycles s nmiVector, enters.resumesByRti,
    interruptEntry_bus s (vec := nmiVector) (by decide) (by decide)⟩

end Sys2Proof.Machine
end

section
/-! SUPPORT. The request inputs (`60_exceptions.md` R262, R263) decide what a step turns to and
nothing else: every operation of the model commutes with writing them, and so does a step that takes
no interrupt. -/

namespace Sys2Proof.Machine

/-- The state with the IRQ line and the NMI latch at given values (R262, R263). -/
def State.withRequests (irq nmi : Bool) (s : State) : State :=
  { s with irqLine := irq, nmiLatch := nmi }

/-! ### The operations over memory and registers -/

section
variable (irq nmi : Bool) (s : State)

theorem State.busRead_withRequests (p : Word) :
    (s.withRequests irq nmi).busRead p = (s.busRead p).withRequests irq nmi := rfl

theorem State.push_withRequests (w : Byte) :
    (s.withRequests irq nmi).push w = (s.push w).withRequests irq nmi := rfl

theorem State.pull_withRequests : (s.withRequests irq nmi).pull = s.pull.withRequests irq nmi := rfl

theorem State.pulled_withRequests : (s.withRequests irq nmi).pulled = s.pulled := rfl

theorem State.pByte_withRequests (b : Bool) : (s.withRequests irq nmi).pByte b = s.pByte b := rfl

theorem State.enterInterrupt_withRequests (ret : Word) (b : Bool) (vec : Word) :
    (s.withRequests irq nmi).enterInterrupt ret b vec =
      (s.enterInterrupt ret b vec).withRequests irq nmi := by
  simp only [State.enterInterrupt, State.push_withRequests, State.pByte_withRequests]
  rfl

theorem State.returnFromInterrupt_withRequests :
    (s.withRequests irq nmi).returnFromInterrupt =
      s.returnFromInterrupt.withRequests irq nmi := by
  simp only [State.returnFromInterrupt, State.pull_withRequests, State.pulled_withRequests]
  rfl

end

/-! ### The operations of the mnemonics -/

section
variable (irq nmi : Bool) (mn : Mnemonic) (w : Byte) (s : State)

theorem readOp_withRequests :
    mn.readOp w (s.withRequests irq nmi) = (mn.readOp w s).withRequests irq nmi := by
  cases mn
  case adc =>
    simp only [Mnemonic.readOp, adc, adcDecimal, apply_ite (State.withRequests irq nmi)]
    rfl
  case sbc =>
    simp only [Mnemonic.readOp, sbc, sbcDecimal, apply_ite (State.withRequests irq nmi)]
    rfl
  all_goals rfl

theorem modifyOp_withRequests :
    mn.modifyOp w (s.withRequests irq nmi) =
      ((mn.modifyOp w s).1, (mn.modifyOp w s).2.withRequests irq nmi) := by
  cases mn <;> rfl

theorem impliedOp_withRequests :
    mn.impliedOp (s.withRequests irq nmi) = (mn.impliedOp s).withRequests irq nmi := by
  cases mn <;> rfl

theorem storedByte_withRequests : mn.storedByte (s.withRequests irq nmi) = mn.storedByte s := by
  cases mn <;> rfl

theorem condition?_withRequests : mn.condition? (s.withRequests irq nmi) = mn.condition? s := by
  cases mn <;> rfl

end

/-! ### The accesses of a memory operand -/

section
variable (irq nmi : Bool) (o : MemOperand) (s : State)

theorem ea_withRequests : o.ea (s.withRequests irq nmi) = o.ea s :=
  ea_congr _ _ _ rfl rfl fun _ => rfl

theorem value_withRequests : o.value (s.withRequests irq nmi) = o.value s := by
  rw [MemOperand.value, ea_withRequests]
  rfl

theorem indexing?_withRequests : o.indexing? (s.withRequests irq nmi) = o.indexing? s := by
  cases o <;> rfl

theorem pointerReads_withRequests :
    o.pointerReads (s.withRequests irq nmi) = (o.pointerReads s).withRequests irq nmi := by
  cases o <;> rfl

theorem fixupOnCross_withRequests :
    o.fixupOnCross (s.withRequests irq nmi) = (o.fixupOnCross s).withRequests irq nmi := by
  simp only [MemOperand.fixupOnCross, indexing?_withRequests]
  (repeat' split) <;> rfl

theorem fixupAlways_withRequests :
    o.fixupAlways (s.withRequests irq nmi) = (o.fixupAlways s).withRequests irq nmi := by
  cases o <;> rfl

theorem readAccesses_withRequests :
    o.readAccesses (s.withRequests irq nmi) = (o.readAccesses s).withRequests irq nmi := by
  rw [MemOperand.readAccesses, pointerReads_withRequests, fixupOnCross_withRequests, ea_withRequests]
  rfl

theorem store_withRequests (w : Byte) :
    o.store w (s.withRequests irq nmi) = (o.store w s).withRequests irq nmi := by
  rw [MemOperand.store, pointerReads_withRequests, fixupAlways_withRequests, ea_withRequests]
  rfl

theorem dummyWritten_withRequests :
    o.dummyWritten (s.withRequests irq nmi) = (o.dummyWritten s).withRequests irq nmi := by
  rw [MemOperand.dummyWritten, pointerReads_withRequests, fixupAlways_withRequests, ea_withRequests,
    value_withRequests]
  rfl

theorem rmw_withRequests (mn : Mnemonic) :
    o.rmw mn.modifyOp (s.withRequests irq nmi) = (o.rmw mn.modifyOp s).withRequests irq nmi := by
  rw [MemOperand.rmw, value_withRequests, dummyWritten_withRequests, modifyOp_withRequests,
    ea_withRequests]
  rfl

end

/-! ### An instruction -/

/-- An instruction answers the state of any case of `ExecCase`: its access kind and operand leave
one. -/
theorem exec_of_execCase {i : Instr} {s t : State} (case : ExecCase s i t) : exec i s = .next t := by
  cases case with
  | readImm kind operand | readMem kind operand | store kind operand | rmw kind operand
  | acc kind operand | implied kind operand => cases i <;> cases kind <;> cases operand <;> rfl
  | branch _ operand condition result =>
    obtain ⟨off, operand', eq⟩ := exec_eq_branch_of_condition condition
    cases operand.symm.trans operand'
    exact eq.trans result
  | pla stackRead | plp stackRead => subst stackRead; rfl
  | rts stackRead pulledAddr => subst stackRead pulledAddr; rfl
  | jmpAbs | jmpAbsInd | pha | php | jsr | brk | rti => rfl

theorem branch_withRequests {cond : Bool} {off : Byte} {s t : State}
    (h : branch cond off s = .next t) (irq nmi : Bool) :
    branch cond off (s.withRequests irq nmi) = .next (t.withRequests irq nmi) := by
  rw [branch_eq] at h ⊢
  cases cond <;> cases h <;> rfl

/-- What an instruction makes of a state it makes of that state with other request inputs. -/
theorem ExecCase.withRequests {i : Instr} {s t : State} (case : ExecCase s i t) (irq nmi : Bool) :
    ExecCase (s.withRequests irq nmi) i (t.withRequests irq nmi) := by
  cases case with
  | readImm kind operand =>
    rw [← readOp_withRequests]
    exact .readImm kind operand
  | readMem kind operand =>
    rw [← readOp_withRequests, ← readAccesses_withRequests, ← value_withRequests irq nmi]
    exact .readMem kind operand
  | store kind operand =>
    rw [← store_withRequests, ← storedByte_withRequests irq nmi]
    exact .store kind operand
  | rmw kind operand =>
    rw [← rmw_withRequests]
    exact .rmw kind operand
  | acc kind operand =>
    have case := ExecCase.acc (s := s.withRequests irq nmi) kind operand
    rwa [State.busRead_withRequests, modifyOp_withRequests] at case
  | implied kind operand =>
    rw [← impliedOp_withRequests]
    exact .implied kind operand
  | branch kind operand condition result =>
    exact .branch kind operand ((condition?_withRequests ..).trans condition)
      (branch_withRequests result irq nmi)
  | jmpAbs => exact .jmpAbs
  | jmpAbsInd => exact .jmpAbsInd
  | pha => exact .pha
  | php => exact .php
  | @pla ready stackRead =>
    exact .pla (ready := ready.withRequests irq nmi) (by rw [stackRead]; rfl)
  | @plp ready stackRead =>
    exact .plp (ready := ready.withRequests irq nmi) (by rw [stackRead]; rfl)
  | jsr => exact .jsr
  | @rts ready _ stackRead pulledAddr =>
    exact .rts (ready := ready.withRequests irq nmi) (by rw [stackRead]; rfl) pulledAddr
  | brk =>
    have case := ExecCase.brk (s := s.withRequests irq nmi)
    rwa [State.busRead_withRequests, State.enterInterrupt_withRequests] at case
  | rti =>
    have case := ExecCase.rti (s := s.withRequests irq nmi)
    rwa [State.busRead_withRequests, State.busRead_withRequests,
      State.returnFromInterrupt_withRequests] at case

theorem exec_withRequests {i : Instr} {s t : State} (h : exec i s = .next t) (irq nmi : Bool) :
    exec i (s.withRequests irq nmi) = .next (t.withRequests irq nmi) :=
  exec_of_execCase ((exec_cases h).withRequests irq nmi)

/-! ### A step -/

section
variable (irq nmi : Bool) (s : State)

theorem fetchInstr_withRequests (i : Instr) :
    fetchInstr i (s.withRequests irq nmi) = (fetchInstr i s).withRequests irq nmi := by
  rw [fetchInstr_eq, fetchInstr_eq]
  rfl

theorem runUndocNop_withRequests (m : NopMode) :
    runUndocNop m (s.withRequests irq nmi) = (runUndocNop m s).withRequests irq nmi := by
  have bus : (runUndocNop m (s.withRequests irq nmi)).bus = (runUndocNop m s).bus := by
    cases m
    case imp => exact (runUndocNop_imp_bus _).trans (runUndocNop_imp_bus s).symm
    case im => exact (runUndocNop_im_bus _).trans (runUndocNop_im_bus s).symm
    all_goals
      rw [runUndocNop_bus_of_memOperand _ _ rfl, runUndocNop_bus_of_memOperand _ _ rfl]
      exact congrArg _ (readLog_congr _ _ _ rfl rfl fun _ => rfl)
  rw [runUndocNop_eq, runUndocNop_eq m s, bus]
  rfl

end

section
variable (irq nmi : Bool) {s : State} (here : s.AtInstruction)
  (there : (s.withRequests irq nmi).AtInstruction)
include here there

/-- Where neither state takes an interrupt, both turn to the same instruction. -/
theorem nextAction_withRequests : nextAction (s.withRequests irq nmi) = nextAction s := by
  obtain ⟨running, noNmi, noIrq⟩ := here
  obtain ⟨running', noNmi', noIrq'⟩ := there
  simp only [nextAction, running, noNmi, noIrq, running', noNmi', noIrq']
  rfl

/-- A step that takes no interrupt carries the request inputs along. -/
theorem step_withRequests {t : State} (result : step s = .next t) :
    step (s.withRequests irq nmi) = .next (t.withRequests irq nmi) := by
  rw [step, nextAction_withRequests irq nmi here there]
  obtain ⟨-, noNmi, noIrq⟩ := here
  obtain ⟨action, rfl⟩ | ⟨action, rfl⟩ | ⟨i, action, hexec⟩ | ⟨m, action, rfl⟩ | ⟨action, rfl⟩ :=
    step_cases result
  · simp [nextAction_eq_nmi_iff, noNmi] at action
  · simp [nextAction_eq_irq_iff, noIrq] at action
  · simpa only [action, fetchInstr_withRequests] using exec_withRequests hexec irq nmi
  · simp only [action, runUndocNop_withRequests]
  · rw [action]
    rfl

end

/-- Settles O14: a halted core answers from its latch alone; a running one without request inputs
takes no interrupt, so `step_withRequests`. -/
theorem noRequestInputsByDefault : Obligations.NoRequestInputsByDefault := by
  refine ⟨fun s irq nmi off => ?_, rfl, fun s t h => (stepKeepsBuild s t h).2⟩
  obtain running | ⟨r, halted⟩ := Option.eq_none_or_eq_some s.halt
  · obtain ⟨u, result⟩ := everyRunningStepCompletes s running
    have there : step (s.withRequests irq nmi) = .next (u.withRequests irq nmi) :=
      step_withRequests irq nmi (atInstruction_of_noRequestInputs running off)
        (atInstruction_of_noRequestInputs running off) result
    refine ⟨fun t h => ?_, fun f h => ?_, fun f h => ?_⟩
    · cases result.symm.trans h
      exact there
    · cases result.symm.trans h
    · cases result.symm.trans h
  · have there : step (s.withRequests irq nmi) = step s :=
      (step_of_halted (s := s.withRequests irq nmi) halted).trans (step_of_halted halted).symm
    refine ⟨fun t h => ?_, fun f h => there.trans h, fun f h => there.trans h⟩
    exact absurd ((step_of_halted halted).symm.trans h) (stopHalted_ne_next r t)

/-- Settles O13: an NMI comes first (`nmiTaken`); an unmasked IRQ is `takeIrq`, the entry through
`0xFFFE`; else the instruction at `PC` is next, and its step carries the request inputs along. -/
theorem irqTakenWhenUnmasked : Obligations.IrqTakenWhenUnmasked := by
  rintro s p running ext rfl
  refine ⟨fun latched => ?nmi, fun noNmi high unmasked => ?irq, fun noNmi noIrq => ?instruction⟩
  case nmi =>
    obtain ⟨t, p, result, rfl, enters, latch, halt, -⟩ := nmiTaken s running ext latched
    exact ⟨t, result, enters, latch, halt⟩
  case irq =>
    have action : nextAction s = .irq := nextAction_eq_irq_iff.mpr
      ⟨running, by simp [State.nmiPending, noNmi], by simp [State.irqPending, ext, high, unmasked]⟩
    have enters : EntersInterrupt s (takeIrq s) s.pc (s.pByte false) irqVector :=
      interruptEntry_entersInterrupt s (by decide) (by decide)
    exact ⟨takeIrq s, by rw [step, action], enters, (interruptEntry_nmiLatch s irqVector).trans noNmi,
      by simp [running], interruptEntry_cycles s irqVector, enters.resumesByRti,
      interruptEntry_bus s (vec := irqVector) (by decide) (by decide)⟩
  case instruction =>
    have here : s.AtInstruction := atInstruction_of_noRequest running noNmi noIrq
    have there : (s.withRequests false s.nmiLatch).AtInstruction :=
      atInstruction_of_noRequest running noNmi (.inl rfl)
    obtain ⟨t, result⟩ := everyRunningStepCompletes s running
    have onLowLine := step_withRequests false s.nmiLatch here there result
    have onSameLine := step_withRequests s.irqLine s.nmiLatch here here result
    exact ⟨fun i rest decoded => by rw [step, nextAction_run here decoded],
      t.withRequests false s.nmiLatch, onLowLine, onSameLine⟩

end Sys2Proof.Machine
end
